-- ==== Sys2Proof/Word.lean ====
section
/-! DEFINITION. The two value types of the core: `u8` and `u16` of 00_scope.md rule R6. All arithmetic on them
wraps (rule R7; 41_arithmetic.md rule R121), which is what `BitVec` addition and subtraction do. -/

namespace Sys2Proof

/-- `u8`: a register, a memory cell, an immediate byte (R4, R6). -/
abbrev Byte := BitVec 8

/-- `u16`: pc, sp, an address, a register pair read as one value (R4, R6). -/
abbrev Word := BitVec 16

end Sys2Proof
end

