-- ==== Sys2Proof/Config.lean ====
section
/-! DEFINITION. What is fixed for the machine (00_scope.md rule R4) and the parameter the spec leaves OPEN at
creation (`RESET_STATE`, 10_state.md rule R38). The spec has no undefined value (93_implementation_defined.md
section 1), so no opaque constant stands here. -/

namespace Sys2Proof

/-- `PREFIX`, the prefix sentinel byte (R4, R13; 40_step_driver.md rule R102). -/
def Config.prefixSentinel : Byte := 0xCB

/-- What a memory address that nothing has written reads as: `MEM_INIT` is 0x00 at every address the host did not
load (20_memory.md rule R61). -/
def Config.unlistedByte : Byte := 0x00

/-- `RESET_STATE`: the value of every register and flag when the state is created (R4, R38; 92 D8). -/
structure ResetState where
  pc : Word
  sp : Word
  a : Byte
  b : Byte
  c : Byte
  d : Byte
  e : Byte
  h : Byte
  l : Byte
  flagZ : Bool
  flagN : Bool
  flagH : Bool
  flagC : Bool
  deriving DecidableEq, Repr

/-- DESIGN CHOICE (log entry 1, unsafe): the one `RESET_STATE` that `State.reset` uses is zero everywhere. The spec
gives no value (R38) and rules out assuming the family's post-boot values (91, 10_state.md; 93 G8). A claim about
creation quantifies over every `ResetState` instead (`State.create`). -/
def Config.resetState : ResetState :=
  { pc := 0, sp := 0, a := 0, b := 0, c := 0, d := 0, e := 0, h := 0, l := 0,
    flagZ := false, flagN := false, flagH := false, flagC := false }

end Sys2Proof
end

