-- ==== Sys2Proof/Syntax.lean ====
section
/-! DEFINITION. The instruction set: one constructor for each row of spec/opcode_table.json, in the table's order.
A constructor carries no operand, because the decoded Instruction of 30_encoding.md rule R76 carries none: the
immediates d8 and a16 are read from memory by the execute rule (rule R75), for CALL after its push (R172). The
descriptor of each (rule R76's tagged value) is `Instr.form` in Machine/Forms.lean. `AtHL` stands for (HL) and `D8`
for d8; the jumps and calls take their a16 from the two bytes after the opcode. -/

namespace Sys2Proof

/-- The 115 encodings of 30_encoding.md rules R78 and R79. -/
inductive Instr where
  | incBC  -- 03: INC BC (R130)
  | ldBD8  -- 06: LD B,d8 (R144)
  | decBC  -- 0B: DEC BC (R131)
  | ldCD8  -- 0E: LD C,d8 (R144)
  | incDE  -- 13: INC DE (R130)
  | ldDD8  -- 16: LD D,d8 (R144)
  | decDE  -- 1B: DEC DE (R131)
  | ldED8  -- 1E: LD E,d8 (R144)
  | incHL  -- 23: INC HL (R130)
  | ldHD8  -- 26: LD H,d8 (R144)
  | decHL  -- 2B: DEC HL (R131)
  | ldLD8  -- 2E: LD L,d8 (R144)
  | ldAtHLD8  -- 36: LD (HL),d8 (R145)
  | ldAD8  -- 3E: LD A,d8 (R144)
  | ldBB  -- 40: LD B,B (R141)
  | ldBC  -- 41: LD B,C (R141)
  | ldBD  -- 42: LD B,D (R141)
  | ldBE  -- 43: LD B,E (R141)
  | ldBH  -- 44: LD B,H (R141)
  | ldBL  -- 45: LD B,L (R141)
  | ldBAtHL  -- 46: LD B,(HL) (R142)
  | ldBA  -- 47: LD B,A (R141)
  | ldCB  -- 48: LD C,B (R141)
  | ldCC  -- 49: LD C,C (R141)
  | ldCD  -- 4A: LD C,D (R141)
  | ldCE  -- 4B: LD C,E (R141)
  | ldCH  -- 4C: LD C,H (R141)
  | ldCL  -- 4D: LD C,L (R141)
  | ldCAtHL  -- 4E: LD C,(HL) (R142)
  | ldCA  -- 4F: LD C,A (R141)
  | ldDB  -- 50: LD D,B (R141)
  | ldDC  -- 51: LD D,C (R141)
  | ldDD  -- 52: LD D,D (R141)
  | ldDE  -- 53: LD D,E (R141)
  | ldDH  -- 54: LD D,H (R141)
  | ldDL  -- 55: LD D,L (R141)
  | ldDAtHL  -- 56: LD D,(HL) (R142)
  | ldDA  -- 57: LD D,A (R141)
  | ldEB  -- 58: LD E,B (R141)
  | ldEC  -- 59: LD E,C (R141)
  | ldED  -- 5A: LD E,D (R141)
  | ldEE  -- 5B: LD E,E (R141)
  | ldEH  -- 5C: LD E,H (R141)
  | ldEL  -- 5D: LD E,L (R141)
  | ldEAtHL  -- 5E: LD E,(HL) (R142)
  | ldEA  -- 5F: LD E,A (R141)
  | ldHB  -- 60: LD H,B (R141)
  | ldHC  -- 61: LD H,C (R141)
  | ldHD  -- 62: LD H,D (R141)
  | ldHE  -- 63: LD H,E (R141)
  | ldHH  -- 64: LD H,H (R141)
  | ldHL  -- 65: LD H,L (R141)
  | ldHAtHL  -- 66: LD H,(HL) (R142)
  | ldHA  -- 67: LD H,A (R141)
  | ldLB  -- 68: LD L,B (R141)
  | ldLC  -- 69: LD L,C (R141)
  | ldLD  -- 6A: LD L,D (R141)
  | ldLE  -- 6B: LD L,E (R141)
  | ldLH  -- 6C: LD L,H (R141)
  | ldLL  -- 6D: LD L,L (R141)
  | ldLAtHL  -- 6E: LD L,(HL) (R142)
  | ldLA  -- 6F: LD L,A (R141)
  | ldAtHLB  -- 70: LD (HL),B (R143)
  | ldAtHLC  -- 71: LD (HL),C (R143)
  | ldAtHLD  -- 72: LD (HL),D (R143)
  | ldAtHLE  -- 73: LD (HL),E (R143)
  | ldAtHLH  -- 74: LD (HL),H (R143)
  | ldAtHLL  -- 75: LD (HL),L (R143)
  | ldAtHLA  -- 77: LD (HL),A (R143)
  | ldAB  -- 78: LD A,B (R141)
  | ldAC  -- 79: LD A,C (R141)
  | ldAD  -- 7A: LD A,D (R141)
  | ldAE  -- 7B: LD A,E (R141)
  | ldAH  -- 7C: LD A,H (R141)
  | ldAL  -- 7D: LD A,L (R141)
  | ldAAtHL  -- 7E: LD A,(HL) (R142)
  | ldAA  -- 7F: LD A,A (R141)
  | addAB  -- 80: ADD A,B (R120)
  | addAC  -- 81: ADD A,C (R120)
  | addAD  -- 82: ADD A,D (R120)
  | addAE  -- 83: ADD A,E (R120)
  | addAH  -- 84: ADD A,H (R120)
  | addAL  -- 85: ADD A,L (R120)
  | addAA  -- 87: ADD A,A (R120)
  | retNZ  -- C0: RET NZ (R174)
  | popBC  -- C1: POP BC (R163)
  | jpNZ  -- C2: JP NZ,a16 (R170)
  | jp  -- C3: JP a16 (R171)
  | callNZ  -- C4: CALL NZ,a16 (R172)
  | pushBC  -- C5: PUSH BC (R162)
  | retZ  -- C8: RET Z (R174)
  | ret  -- C9: RET (R175)
  | jpZ  -- CA: JP Z,a16 (R170)
  | callZ  -- CC: CALL Z,a16 (R172)
  | call  -- CD: CALL a16 (R173)
  | retNC  -- D0: RET NC (R174)
  | popDE  -- D1: POP DE (R163)
  | jpNC  -- D2: JP NC,a16 (R170)
  | callNC  -- D4: CALL NC,a16 (R172)
  | pushDE  -- D5: PUSH DE (R162)
  | retC  -- D8: RET C (R174)
  | jpC  -- DA: JP C,a16 (R170)
  | callC  -- DC: CALL C,a16 (R172)
  | popHL  -- E1: POP HL (R163)
  | pushHL  -- E5: PUSH HL (R162)
  | popAF  -- F1: POP AF (R164)
  | pushAF  -- F5: PUSH AF (R162)
  | rlcB  -- CB 00: RLC B (R190)
  | rlcC  -- CB 01: RLC C (R190)
  | rlcD  -- CB 02: RLC D (R190)
  | rlcE  -- CB 03: RLC E (R190)
  | rlcH  -- CB 04: RLC H (R190)
  | rlcL  -- CB 05: RLC L (R190)
  | rlcAtHL  -- CB 06: RLC (HL) (R191)
  | rlcA  -- CB 07: RLC A (R190)
  deriving DecidableEq, Repr

end Sys2Proof
end

