-- ==== Sys2Proof/Machine/Forms.lean ====
section
/-! DEFINITION. The operand descriptors and the decoded Instruction of 30_encoding.md rule R76, the descriptor of
each constructor of `Instr`, and for each family the constructor that a descriptor names. -/

namespace Sys2Proof

/-- The seven general registers, as rule R76 lists them (10_state.md rule R21). -/
inductive Reg8 where
  | b | c | d | e | h | l | a
  deriving DecidableEq, Repr

/-- Operand of INC and DEC (R76). -/
inductive Pair16 where
  | bc | de | hl
  deriving DecidableEq, Repr

/-- Operand of PUSH and POP (R76); also every register pair of 10_state.md rule R28. -/
inductive StackPair where
  | bc | de | hl | af
  deriving DecidableEq, Repr

/-- A pair of INC/DEC as one of the four register pairs. -/
def Pair16.toStack : Pair16 → StackPair
  | .bc => .bc
  | .de => .de
  | .hl => .hl

/-- Condition Test (R76; 10_state.md rule R33). -/
inductive Test where
  | nz | z | nc | c | always
  deriving DecidableEq, Repr

/-- Destination of a byte load: a register, or the byte at address HL (R76's HLI). -/
inductive LoadDst where
  | reg (r : Reg8)
  | atHL
  deriving DecidableEq, Repr

/-- Source of a byte load: a register, the byte at address HL, or the immediate byte (R76). -/
inductive LoadSrc where
  | reg (r : Reg8)
  | atHL
  | d8
  deriving DecidableEq, Repr

/-- Operand of the prefixed rotate (R76). -/
inductive RotTarget where
  | reg (r : Reg8)
  | atHL
  deriving DecidableEq, Repr

/-- The decoded Instruction of rule R76: a category tag and its operand descriptors. -/
inductive Form where
  | add (r : Reg8)
  | inc (p : Pair16)
  | dec (p : Pair16)
  | ld (dst : LoadDst) (src : LoadSrc)
  | push (q : StackPair)
  | pop (q : StackPair)
  | jp (t : Test)
  | call (t : Test)
  | ret (t : Test)
  | rlc (t : RotTarget)
  deriving DecidableEq, Repr

/-- The rule-R76 value that each constructor of `Instr` stands for. -/
def Instr.form : Instr → Form
  | .incBC => .inc .bc
  | .ldBD8 => .ld (.reg .b) .d8
  | .decBC => .dec .bc
  | .ldCD8 => .ld (.reg .c) .d8
  | .incDE => .inc .de
  | .ldDD8 => .ld (.reg .d) .d8
  | .decDE => .dec .de
  | .ldED8 => .ld (.reg .e) .d8
  | .incHL => .inc .hl
  | .ldHD8 => .ld (.reg .h) .d8
  | .decHL => .dec .hl
  | .ldLD8 => .ld (.reg .l) .d8
  | .ldAtHLD8 => .ld .atHL .d8
  | .ldAD8 => .ld (.reg .a) .d8
  | .ldBB => .ld (.reg .b) (.reg .b)
  | .ldBC => .ld (.reg .b) (.reg .c)
  | .ldBD => .ld (.reg .b) (.reg .d)
  | .ldBE => .ld (.reg .b) (.reg .e)
  | .ldBH => .ld (.reg .b) (.reg .h)
  | .ldBL => .ld (.reg .b) (.reg .l)
  | .ldBAtHL => .ld (.reg .b) .atHL
  | .ldBA => .ld (.reg .b) (.reg .a)
  | .ldCB => .ld (.reg .c) (.reg .b)
  | .ldCC => .ld (.reg .c) (.reg .c)
  | .ldCD => .ld (.reg .c) (.reg .d)
  | .ldCE => .ld (.reg .c) (.reg .e)
  | .ldCH => .ld (.reg .c) (.reg .h)
  | .ldCL => .ld (.reg .c) (.reg .l)
  | .ldCAtHL => .ld (.reg .c) .atHL
  | .ldCA => .ld (.reg .c) (.reg .a)
  | .ldDB => .ld (.reg .d) (.reg .b)
  | .ldDC => .ld (.reg .d) (.reg .c)
  | .ldDD => .ld (.reg .d) (.reg .d)
  | .ldDE => .ld (.reg .d) (.reg .e)
  | .ldDH => .ld (.reg .d) (.reg .h)
  | .ldDL => .ld (.reg .d) (.reg .l)
  | .ldDAtHL => .ld (.reg .d) .atHL
  | .ldDA => .ld (.reg .d) (.reg .a)
  | .ldEB => .ld (.reg .e) (.reg .b)
  | .ldEC => .ld (.reg .e) (.reg .c)
  | .ldED => .ld (.reg .e) (.reg .d)
  | .ldEE => .ld (.reg .e) (.reg .e)
  | .ldEH => .ld (.reg .e) (.reg .h)
  | .ldEL => .ld (.reg .e) (.reg .l)
  | .ldEAtHL => .ld (.reg .e) .atHL
  | .ldEA => .ld (.reg .e) (.reg .a)
  | .ldHB => .ld (.reg .h) (.reg .b)
  | .ldHC => .ld (.reg .h) (.reg .c)
  | .ldHD => .ld (.reg .h) (.reg .d)
  | .ldHE => .ld (.reg .h) (.reg .e)
  | .ldHH => .ld (.reg .h) (.reg .h)
  | .ldHL => .ld (.reg .h) (.reg .l)
  | .ldHAtHL => .ld (.reg .h) .atHL
  | .ldHA => .ld (.reg .h) (.reg .a)
  | .ldLB => .ld (.reg .l) (.reg .b)
  | .ldLC => .ld (.reg .l) (.reg .c)
  | .ldLD => .ld (.reg .l) (.reg .d)
  | .ldLE => .ld (.reg .l) (.reg .e)
  | .ldLH => .ld (.reg .l) (.reg .h)
  | .ldLL => .ld (.reg .l) (.reg .l)
  | .ldLAtHL => .ld (.reg .l) .atHL
  | .ldLA => .ld (.reg .l) (.reg .a)
  | .ldAtHLB => .ld .atHL (.reg .b)
  | .ldAtHLC => .ld .atHL (.reg .c)
  | .ldAtHLD => .ld .atHL (.reg .d)
  | .ldAtHLE => .ld .atHL (.reg .e)
  | .ldAtHLH => .ld .atHL (.reg .h)
  | .ldAtHLL => .ld .atHL (.reg .l)
  | .ldAtHLA => .ld .atHL (.reg .a)
  | .ldAB => .ld (.reg .a) (.reg .b)
  | .ldAC => .ld (.reg .a) (.reg .c)
  | .ldAD => .ld (.reg .a) (.reg .d)
  | .ldAE => .ld (.reg .a) (.reg .e)
  | .ldAH => .ld (.reg .a) (.reg .h)
  | .ldAL => .ld (.reg .a) (.reg .l)
  | .ldAAtHL => .ld (.reg .a) .atHL
  | .ldAA => .ld (.reg .a) (.reg .a)
  | .addAB => .add .b
  | .addAC => .add .c
  | .addAD => .add .d
  | .addAE => .add .e
  | .addAH => .add .h
  | .addAL => .add .l
  | .addAA => .add .a
  | .retNZ => .ret .nz
  | .popBC => .pop .bc
  | .jpNZ => .jp .nz
  | .jp => .jp .always
  | .callNZ => .call .nz
  | .pushBC => .push .bc
  | .retZ => .ret .z
  | .ret => .ret .always
  | .jpZ => .jp .z
  | .callZ => .call .z
  | .call => .call .always
  | .retNC => .ret .nc
  | .popDE => .pop .de
  | .jpNC => .jp .nc
  | .callNC => .call .nc
  | .pushDE => .push .de
  | .retC => .ret .c
  | .jpC => .jp .c
  | .callC => .call .c
  | .popHL => .pop .hl
  | .pushHL => .push .hl
  | .popAF => .pop .af
  | .pushAF => .push .af
  | .rlcB => .rlc (.reg .b)
  | .rlcC => .rlc (.reg .c)
  | .rlcD => .rlc (.reg .d)
  | .rlcE => .rlc (.reg .e)
  | .rlcH => .rlc (.reg .h)
  | .rlcL => .rlc (.reg .l)
  | .rlcAtHL => .rlc .atHL
  | .rlcA => .rlc (.reg .a)

/-- `ADD A,r` (41_arithmetic.md rule R120). -/
def Instr.ofAdd : Reg8 → Instr
  | .b => .addAB
  | .c => .addAC
  | .d => .addAD
  | .e => .addAE
  | .h => .addAH
  | .l => .addAL
  | .a => .addAA

/-- `INC rr` (42_incdec.md rule R130). -/
def Instr.ofInc : Pair16 → Instr
  | .bc => .incBC
  | .de => .incDE
  | .hl => .incHL

/-- `DEC rr` (42_incdec.md rule R131). -/
def Instr.ofDec : Pair16 → Instr
  | .bc => .decBC
  | .de => .decDE
  | .hl => .decHL

/-- `LD r,r'`: destination, then source (43_load.md rule R141). -/
def Instr.ofLdRegReg : Reg8 → Reg8 → Instr
  | .b, .b => .ldBB
  | .b, .c => .ldBC
  | .b, .d => .ldBD
  | .b, .e => .ldBE
  | .b, .h => .ldBH
  | .b, .l => .ldBL
  | .b, .a => .ldBA
  | .c, .b => .ldCB
  | .c, .c => .ldCC
  | .c, .d => .ldCD
  | .c, .e => .ldCE
  | .c, .h => .ldCH
  | .c, .l => .ldCL
  | .c, .a => .ldCA
  | .d, .b => .ldDB
  | .d, .c => .ldDC
  | .d, .d => .ldDD
  | .d, .e => .ldDE
  | .d, .h => .ldDH
  | .d, .l => .ldDL
  | .d, .a => .ldDA
  | .e, .b => .ldEB
  | .e, .c => .ldEC
  | .e, .d => .ldED
  | .e, .e => .ldEE
  | .e, .h => .ldEH
  | .e, .l => .ldEL
  | .e, .a => .ldEA
  | .h, .b => .ldHB
  | .h, .c => .ldHC
  | .h, .d => .ldHD
  | .h, .e => .ldHE
  | .h, .h => .ldHH
  | .h, .l => .ldHL
  | .h, .a => .ldHA
  | .l, .b => .ldLB
  | .l, .c => .ldLC
  | .l, .d => .ldLD
  | .l, .e => .ldLE
  | .l, .h => .ldLH
  | .l, .l => .ldLL
  | .l, .a => .ldLA
  | .a, .b => .ldAB
  | .a, .c => .ldAC
  | .a, .d => .ldAD
  | .a, .e => .ldAE
  | .a, .h => .ldAH
  | .a, .l => .ldAL
  | .a, .a => .ldAA

/-- `LD r,(HL)` (43_load.md rule R142). -/
def Instr.ofLdRegAtHL : Reg8 → Instr
  | .b => .ldBAtHL
  | .c => .ldCAtHL
  | .d => .ldDAtHL
  | .e => .ldEAtHL
  | .h => .ldHAtHL
  | .l => .ldLAtHL
  | .a => .ldAAtHL

/-- `LD (HL),r` (43_load.md rule R143). -/
def Instr.ofLdAtHLReg : Reg8 → Instr
  | .b => .ldAtHLB
  | .c => .ldAtHLC
  | .d => .ldAtHLD
  | .e => .ldAtHLE
  | .h => .ldAtHLH
  | .l => .ldAtHLL
  | .a => .ldAtHLA

/-- `LD r,d8` (43_load.md rule R144). -/
def Instr.ofLdRegD8 : Reg8 → Instr
  | .b => .ldBD8
  | .c => .ldCD8
  | .d => .ldDD8
  | .e => .ldED8
  | .h => .ldHD8
  | .l => .ldLD8
  | .a => .ldAD8

/-- `PUSH qq` (44_stack.md rule R162). -/
def Instr.ofPush : StackPair → Instr
  | .bc => .pushBC
  | .de => .pushDE
  | .hl => .pushHL
  | .af => .pushAF

/-- `POP qq` (44_stack.md rules R163, R164). -/
def Instr.ofPop : StackPair → Instr
  | .bc => .popBC
  | .de => .popDE
  | .hl => .popHL
  | .af => .popAF

/-- `JP` with each Condition Test (45_control.md rules R170, R171). -/
def Instr.ofJp : Test → Instr
  | .nz => .jpNZ
  | .z => .jpZ
  | .nc => .jpNC
  | .c => .jpC
  | .always => .jp

/-- `CALL` with each Condition Test (45_control.md rules R172, R173). -/
def Instr.ofCall : Test → Instr
  | .nz => .callNZ
  | .z => .callZ
  | .nc => .callNC
  | .c => .callC
  | .always => .call

/-- `RET` with each Condition Test (45_control.md rules R174, R175). -/
def Instr.ofRet : Test → Instr
  | .nz => .retNZ
  | .z => .retZ
  | .nc => .retNC
  | .c => .retC
  | .always => .ret

/-- `RLC r` and `RLC (HL)` (46_prefixed.md rules R190, R191). -/
def Instr.ofRlc : RotTarget → Instr
  | .reg .b => .rlcB
  | .reg .c => .rlcC
  | .reg .d => .rlcD
  | .reg .e => .rlcE
  | .reg .h => .rlcH
  | .reg .l => .rlcL
  | .reg .a => .rlcA
  | .atHL => .rlcAtHL

end Sys2Proof
end

