-- ==== Sys2Proof/WellFormed.lean ====
section
/-! DEFINITION. Well-formed instructions: the constraint that 30_encoding.md rule R76 puts on its tagged value. -/

namespace Sys2Proof

/-- "never LD(HLI, HLI)" (R76; 43_load.md rule R140: its slot 0x76 is unmapped). Every other value that the types of
rule R76 allow has an opcode of its own (R78, R79). -/
def Form.wellFormed : Form → Bool
  | .ld .atHL .atHL => false
  | .ld .atHL (.reg _) => true
  | .ld .atHL .d8 => true
  | .ld (.reg _) _ => true
  | .add _ => true
  | .inc _ => true
  | .dec _ => true
  | .push _ => true
  | .pop _ => true
  | .jp _ => true
  | .call _ => true
  | .ret _ => true
  | .rlc _ => true

/-- An instruction is well-formed when its descriptor is. -/
def Instr.wellFormed (i : Instr) : Bool := i.form.wellFormed

end Sys2Proof
end

