-- ==== Sys2Proof/Decode.lean ====
section
/-! DEFINITION. The decoder (30_encoding.md): the two 256-entry lookup tables of rules R77-R83, a decoder of byte
lists built on them, and after it the encoder, written apart from the tables from the bit fields of rules R71-R74. -/

namespace Sys2Proof

/-! ## The two lookup tables (R77), row by row as the opcode map of rule R83 prints them -/

/-- Row 0x of rule R83. -/
def primaryRow0 : List (Option Instr) :=
  [none, none, none, some .incBC, none, none, some .ldBD8, none,
   none, none, none, some .decBC, none, none, some .ldCD8, none]

/-- Row 1x of rule R83. -/
def primaryRow1 : List (Option Instr) :=
  [none, none, none, some .incDE, none, none, some .ldDD8, none,
   none, none, none, some .decDE, none, none, some .ldED8, none]

/-- Row 2x of rule R83. -/
def primaryRow2 : List (Option Instr) :=
  [none, none, none, some .incHL, none, none, some .ldHD8, none,
   none, none, none, some .decHL, none, none, some .ldLD8, none]

/-- Row 3x of rule R83. -/
def primaryRow3 : List (Option Instr) :=
  [none, none, none, none, none, none, some .ldAtHLD8, none,
   none, none, none, none, none, none, some .ldAD8, none]

/-- Row 4x of rule R83. -/
def primaryRow4 : List (Option Instr) :=
  [some .ldBB, some .ldBC, some .ldBD, some .ldBE, some .ldBH, some .ldBL, some .ldBAtHL, some .ldBA,
   some .ldCB, some .ldCC, some .ldCD, some .ldCE, some .ldCH, some .ldCL, some .ldCAtHL, some .ldCA]

/-- Row 5x of rule R83. -/
def primaryRow5 : List (Option Instr) :=
  [some .ldDB, some .ldDC, some .ldDD, some .ldDE, some .ldDH, some .ldDL, some .ldDAtHL, some .ldDA,
   some .ldEB, some .ldEC, some .ldED, some .ldEE, some .ldEH, some .ldEL, some .ldEAtHL, some .ldEA]

/-- Row 6x of rule R83. -/
def primaryRow6 : List (Option Instr) :=
  [some .ldHB, some .ldHC, some .ldHD, some .ldHE, some .ldHH, some .ldHL, some .ldHAtHL, some .ldHA,
   some .ldLB, some .ldLC, some .ldLD, some .ldLE, some .ldLH, some .ldLL, some .ldLAtHL, some .ldLA]

/-- Row 7x of rule R83. -/
def primaryRow7 : List (Option Instr) :=
  [some .ldAtHLB, some .ldAtHLC, some .ldAtHLD, some .ldAtHLE, some .ldAtHLH, some .ldAtHLL, none, some .ldAtHLA,
   some .ldAB, some .ldAC, some .ldAD, some .ldAE, some .ldAH, some .ldAL, some .ldAAtHL, some .ldAA]

/-- Row 8x of rule R83. -/
def primaryRow8 : List (Option Instr) :=
  [some .addAB, some .addAC, some .addAD, some .addAE, some .addAH, some .addAL, none, some .addAA,
   none, none, none, none, none, none, none, none]

/-- Row 9x of rule R83. -/
def primaryRow9 : List (Option Instr) :=
  [none, none, none, none, none, none, none, none,
   none, none, none, none, none, none, none, none]

/-- Row Ax of rule R83. -/
def primaryRowA : List (Option Instr) :=
  [none, none, none, none, none, none, none, none,
   none, none, none, none, none, none, none, none]

/-- Row Bx of rule R83. -/
def primaryRowB : List (Option Instr) :=
  [none, none, none, none, none, none, none, none,
   none, none, none, none, none, none, none, none]

/-- Row Cx of rule R83. -/
def primaryRowC : List (Option Instr) :=
  [some .retNZ, some .popBC, some .jpNZ, some .jp, some .callNZ, some .pushBC, none, none,
   some .retZ, some .ret, some .jpZ, none, some .callZ, some .call, none, none]

/-- Row Dx of rule R83. -/
def primaryRowD : List (Option Instr) :=
  [some .retNC, some .popDE, some .jpNC, none, some .callNC, some .pushDE, none, none,
   some .retC, none, some .jpC, none, some .callC, none, none, none]

/-- Row Ex of rule R83. -/
def primaryRowE : List (Option Instr) :=
  [none, some .popHL, none, none, none, some .pushHL, none, none,
   none, none, none, none, none, none, none, none]

/-- Row Fx of rule R83. -/
def primaryRowF : List (Option Instr) :=
  [none, some .popAF, none, none, none, some .pushAF, none, none,
   none, none, none, none, none, none, none, none]

/-- PRIMARY (R78, R83); an entry is `none` exactly where rule R80 says, and at the byte 0xCB (R81). -/
def primaryTable : List (Option Instr) :=
  primaryRow0 ++ primaryRow1 ++ primaryRow2 ++ primaryRow3 ++ primaryRow4 ++ primaryRow5 ++ primaryRow6 ++
  primaryRow7 ++ primaryRow8 ++ primaryRow9 ++ primaryRowA ++ primaryRowB ++ primaryRowC ++ primaryRowD ++
  primaryRowE ++ primaryRowF

/-- PREFIXED (R79): entries at 00-07, and `none` at 08-FF (R80). -/
def prefixedTable : List (Option Instr) :=
  [some .rlcB, some .rlcC, some .rlcD, some .rlcE, some .rlcH, some .rlcL, some .rlcAtHL, some .rlcA]
  ++ List.replicate 248 none

/-- `decode(opcode_byte, is_prefixed) -> Option<Instruction>` (R77). `none` is the decode failure, which the step
reports by name as UnknownOpcode (R80; 40_step_driver.md rule R103). -/
def decode (b : Byte) (prefixed : Bool) : Option Instr :=
  if prefixed then prefixedTable.getD b.toNat none else primaryTable.getD b.toNat none

/-! ## Encoding from the bit fields (R71-R74) -/

/-- Register operand code (R72). -/
def Reg8.code : Reg8 → BitVec 3
  | .b => 0b000
  | .c => 0b001
  | .d => 0b010
  | .e => 0b011
  | .h => 0b100
  | .l => 0b101
  | .a => 0b111

/-- The operand code of (HL) (R72). -/
def codeAtHL : BitVec 3 := 0b110

/-- The destination field ddd of a load (R71, R72). -/
def LoadDst.code : LoadDst → BitVec 3
  | .reg r => r.code
  | .atHL => codeAtHL

/-- The field rrr of the prefixed rotate (R71, R72). -/
def RotTarget.code : RotTarget → BitVec 3
  | .reg r => r.code
  | .atHL => codeAtHL

/-- Pair code pp of INC/DEC (R73). -/
def Pair16.code : Pair16 → BitVec 2
  | .bc => 0b00
  | .de => 0b01
  | .hl => 0b10

/-- Pair code qq of PUSH/POP (R73). -/
def StackPair.code : StackPair → BitVec 2
  | .bc => 0b00
  | .de => 0b01
  | .hl => 0b10
  | .af => 0b11

/-- The opcode byte `110 cc low` of a control transfer, with cc by rule R74; the ALWAYS test has no cc field but an
opcode byte of its own. -/
def Test.opcode (t : Test) (low : BitVec 3) (always : Byte) : Byte :=
  match t with
  | .nz => 0b110#3 ++ 0b00#2 ++ low
  | .z => 0b110#3 ++ 0b01#2 ++ low
  | .nc => 0b110#3 ++ 0b10#2 ++ low
  | .c => 0b110#3 ++ 0b11#2 ++ low
  | .always => always

/-- The opcode byte of a decoded Instruction, by the bit fields of rule R71 (for a prefixed one, the byte after
0xCB). -/
def Form.opcode : Form → Byte
  | .add r => 0b10000#5 ++ r.code
  | .inc p => 0b00#2 ++ p.code ++ 0b0011#4
  | .dec p => 0b00#2 ++ p.code ++ 0b1011#4
  | .ld dst (.reg r) => 0b01#2 ++ dst.code ++ r.code
  | .ld dst .atHL => 0b01#2 ++ dst.code ++ codeAtHL
  | .ld dst .d8 => 0b00#2 ++ dst.code ++ 0b110#3
  | .push q => 0b11#2 ++ q.code ++ 0b0101#4
  | .pop q => 0b11#2 ++ q.code ++ 0b0001#4
  | .jp t => t.opcode 0b010 0xC3
  | .call t => t.opcode 0b100 0xCD
  | .ret t => t.opcode 0b000 0xC9
  | .rlc t => 0b00000#5 ++ t.code

/-- Whether the format is `CB_OP` (R71). -/
def Form.isPrefixed : Form → Bool
  | .rlc _ => true
  | .add _ => false
  | .inc _ => false
  | .dec _ => false
  | .ld _ _ => false
  | .push _ => false
  | .pop _ => false
  | .jp _ => false
  | .call _ => false
  | .ret _ => false

/-- How many operand bytes follow the opcode: one in format `OP_D8`, two in `OP_A16`, none in `OP` and `CB_OP`
(R71, R82). -/
def Form.operandLength : Form → Nat
  | .ld _ .d8 => 1
  | .ld _ (.reg _) => 0
  | .ld _ .atHL => 0
  | .jp _ => 2
  | .call _ => 2
  | .add _ => 0
  | .inc _ => 0
  | .dec _ => 0
  | .push _ => 0
  | .pop _ => 0
  | .ret _ => 0
  | .rlc _ => 0

def Instr.opcode (i : Instr) : Byte := i.form.opcode

def Instr.isPrefixed (i : Instr) : Bool := i.form.isPrefixed

def Instr.operandLength (i : Instr) : Nat := i.form.operandLength

/-- The bytes that name the instruction: its opcode byte, after 0xCB where it is prefixed (R71). -/
def encode (i : Instr) : List Byte :=
  if i.isPrefixed then [Config.prefixSentinel, i.opcode] else [i.opcode]

/-- The whole instruction with the operand bytes `ops` in memory order, low byte first (R71, R75). -/
def encodeWith (i : Instr) (ops : List Byte) : List Byte := encode i ++ ops

/-- Instruction length in bytes (R70, R82). -/
def Instr.length (i : Instr) : Nat := (encode i).length + i.operandLength

/-! ## Decoding a list of bytes -/

/-- What reading one instruction off a list of bytes gives. -/
inductive Decoded where
  /-- An instruction, its operand bytes in memory order, and the bytes left over. -/
  | instr (i : Instr) (ops : List Byte) (rest : List Byte)
  /-- The byte has no entry in its table (R80). -/
  | unknownOpcode (byte : Byte) (prefixed : Bool)
  /-- The list ends inside the instruction. This cannot happen in memory, which has no end (20_memory.md R55). -/
  | truncated
  deriving DecidableEq, Repr

/-- Look the byte up and split its operand bytes off (R75, R82). -/
def decodeKey (b : Byte) (prefixed : Bool) (bytes : List Byte) : Decoded :=
  match decode b prefixed with
  | none => .unknownOpcode b prefixed
  | some i =>
    if i.operandLength ≤ bytes.length then
      .instr i (bytes.take i.operandLength) (bytes.drop i.operandLength)
    else .truncated

/-- Read one instruction off the front of a list of bytes, consuming at most one 0xCB (40_step_driver.md R102). -/
def decodeBytes : List Byte → Decoded
  | [] => .truncated
  | b :: bytes =>
    if b = Config.prefixSentinel then
      match bytes with
      | [] => .truncated
      | b' :: bytes' => decodeKey b' true bytes'
    else decodeKey b false bytes

/-! ## The opcode table's numbering -/

/-- Byte `k` of the number `w`, byte 0 the least significant. -/
def tableByte (w k : Nat) : Byte := BitVec.ofNat 8 (w / 256 ^ k)

/-- The bytes, in memory order, of an instruction whose first `nbits` bits are `w` in the opcode table's numbering, the
bits above them zero up to the longest length of three bytes (R70). The first byte is the least significant, except
that the table writes a CB_OP row as one number with the sentinel 0xCB in bits 15..8 and the opcode in bits 7..0
(98_reader.md; log entry 5): a 16-bit number of that shape is the sentinel, then the opcode. -/
def tableBytes (nbits w : Nat) : List Byte :=
  if nbits = 16 ∧ tableByte w 1 = Config.prefixSentinel then [tableByte w 1, tableByte w 0, 0]
  else
    [tableByte (w % 2 ^ nbits) 0, tableByte (w % 2 ^ nbits) 1, tableByte (w % 2 ^ nbits) 2]

/-- The instruction the decoder reads from a word of the opcode table, `none` where it refuses. -/
def decodeTableWord (nbits w : Nat) : Option Instr :=
  match decodeBytes (tableBytes nbits w) with
  | .instr i _ _ => some i
  | .unknownOpcode _ _ => none
  | .truncated => none

end Sys2Proof
end

