-- ==== Sys2Proof/Machine/State.lean ====
section
/-! DEFINITION. The architectural state of the core, exactly the elements of 10_state.md rule R20, the ways a step can
stop, and the state at creation. -/

namespace Sys2Proof.Machine

/-- The backing store of the Memory Bus (20_memory.md rule R50): address and byte cells, addresses strictly rising,
no cell equal to what an unlisted address reads as (`Memory.wf` in Machine/Ops.lean). -/
abbrev Memory := List Host.Cell

/-- The Processor State (R20). F and the pairs are views (R25, R28), and nothing of one step stays for the next
(R36, R37). -/
structure State where
  /-- Program counter (R31). -/
  pc : Word
  /-- Stack pointer, the address of the last byte pushed (R32). -/
  sp : Word
  /-- The accumulator (R21). -/
  a : Byte
  b : Byte
  c : Byte
  d : Byte
  e : Byte
  h : Byte
  l : Byte
  /-- Zero flag, bit 7 of F (R23). -/
  flagZ : Bool
  /-- Subtract flag, bit 6 of F (R23). -/
  flagN : Bool
  /-- Half-carry flag, bit 5 of F (R23). -/
  flagH : Bool
  /-- Carry flag, bit 4 of F (R23). -/
  flagC : Bool
  /-- All of memory (R50). -/
  mem : Memory
  deriving DecidableEq, Repr

/-- The two failure outcomes of a step (60_exceptions.md rule R200). A failure changes no state (R201), so a fault
carries no state: the state after it is the state before it. -/
inductive Fault where
  /-- Raised by the step when decode has no entry (R103, R202): the byte looked up, which is the one after 0xCB if
  `prefixed`. Safe: it is the outcome the spec states. -/
  | unknownOpcode (byte : Byte) (prefixed : Bool)
  /-- Raised by the eight prefixed rotates (R105, R190, R191), which decode and have no execute rule. Safe: it is the
  outcome the spec states. -/
  | unimplementedInstruction (byte : Byte) (prefixed : Bool) (instr : Instr)
  deriving DecidableEq, Repr

/-- Reasons for which the model itself gives an instruction no meaning. -/
inductive Refusal where
  /-- Raised by an arm of `exec` that has no meaning yet; no arm does. Safe: nothing is claimed of such a step. -/
  | notModelled (mnemonic : String)
  deriving DecidableEq, Repr

/-- The outcome of a step or of an instruction (R100). -/
abbrev Result := Host.Outcome State Fault Refusal

/-- Creation of the Processor State from `RESET_STATE` and `MEM_INIT` (70_reset_and_hazards.md rule R230; 10_state.md
rule R38), the two parameters the spec leaves OPEN. -/
def State.create (r : ResetState) (image : Memory) : State :=
  { pc := r.pc, sp := r.sp, a := r.a, b := r.b, c := r.c, d := r.d, e := r.e, h := r.h, l := r.l,
    flagZ := r.flagZ, flagN := r.flagN, flagH := r.flagH, flagC := r.flagC, mem := image }

/-- The machine right after reset: created with the model's own `RESET_STATE` (DESIGN CHOICE, log entry 1, unsafe)
and with nothing loaded, so that every address reads 0x00 (20_memory.md rule R61; log entry 2). -/
def State.reset : State := State.create Config.resetState []

end Sys2Proof.Machine
end

