-- ==== Sys2Proof/Machine/Ops.lean ====
section
/-! DEFINITION. The named operations over memory and registers, the stack procedures, the fetch, and the raising of
the two failures. Every meaning reads and writes the state through these. -/

namespace Sys2Proof.Machine

/-! ## Bytes and words (00_scope.md rule R7) -/

/-- `hi:lo`, concatenation of two bytes. -/
def joinBytes (hi lo : Byte) : Word := hi ++ lo

/-- `lo8(v) = v[7:0]`. -/
def lo8 (v : Word) : Byte := v.extractLsb' 0 8

/-- `hi8(v) = v[15:8]`. -/
def hi8 (v : Word) : Byte := v.extractLsb' 8 8

/-! ## Memory as a list of cells (20_memory.md rules R50-R53) -/

/-- The byte at an address; an address with no cell reads as `Config.unlistedByte` (R61). -/
def Memory.read (m : Memory) (k : Nat) : Byte :=
  match m with
  | [] => Config.unlistedByte
  | c :: rest => if c.1 = k then c.2 else Memory.read rest k

/-- Remove every cell at an address. -/
def Memory.erase (m : Memory) (k : Nat) : Memory := m.filter (fun c => c.1 != k)

/-- Put a cell before the first cell of a higher address. -/
def Memory.insert (m : Memory) (k : Nat) (v : Byte) : Memory :=
  match m with
  | [] => [(k, v)]
  | c :: rest => if k < c.1 then (k, v) :: c :: rest else c :: Memory.insert rest k v

/-- Set the byte at an address, keeping the canonical form: the value an unlisted address reads as has no cell. -/
def Memory.write (m : Memory) (k : Nat) (v : Byte) : Memory :=
  if v = Config.unlistedByte then m.erase k else (m.erase k).insert k v

/-- The canonical form: addresses strictly rising, all of them 16-bit addresses, and no cell equal to what an unlisted
address reads as. -/
abbrev Memory.wf (m : Memory) : Prop :=
  m.Pairwise (fun x y => x.1 < y.1) ∧ ∀ c ∈ m, c.1 < 65536 ∧ c.2 ≠ Config.unlistedByte

/-! ## The Memory Bus (20_memory.md) -/

/-- `MemRead(a, 1)`, the bus operation `read_byte` (R51): always succeeds. -/
def State.readByte (s : State) (a : Word) : Byte := s.mem.read a.toNat

/-- `MemWrite(a, 1, v)`, the bus operation `write_byte` (R52): always succeeds. -/
def State.writeByte (s : State) (a : Word) (v : Byte) : State := { s with mem := s.mem.write a.toNat v }

/-- `MemRead(a, 2)`, little-endian, the high byte from `a +16 1` (R54; 00_scope.md rule R9). -/
def State.readWord (s : State) (a : Word) : Word := joinBytes (s.readByte (a + 1)) (s.readByte a)

/-- Store bytes at consecutive addresses, wrapping past 0xFFFF (R55). -/
def State.writeBytes (s : State) (a : Word) : List Byte → State
  | [] => s
  | v :: rest => (s.writeByte a v).writeBytes (a + 1) rest

/-! ## Registers (10_state.md) -/

/-- `reg[r]` (R8, R21). -/
def State.getReg (s : State) : Reg8 → Byte
  | .b => s.b
  | .c => s.c
  | .d => s.d
  | .e => s.e
  | .h => s.h
  | .l => s.l
  | .a => s.a

/-- `reg[r] <- v` (R8, R21). No register is hardwired. -/
def State.setReg (s : State) (r : Reg8) (v : Byte) : State :=
  match r with
  | .b => { s with b := v }
  | .c => { s with c := v }
  | .d => { s with d := v }
  | .e => { s with e := v }
  | .h => { s with h := v }
  | .l => { s with l := v }
  | .a => { s with a := v }

/-- The commit of next_pc (40_step_driver.md rule R104). -/
def State.setPc (s : State) (v : Word) : State := { s with pc := v }

/-- `sp <- v`; only the stack procedures use it (R32). -/
def State.setSp (s : State) (v : Word) : State := { s with sp := v }

/-- Write all four flags (R23, R24). -/
def State.setFlags (s : State) (z n h c : Bool) : State :=
  { s with flagZ := z, flagN := n, flagH := h, flagC := c }

/-! ## The stack (44_stack.md) -/

/-- `push16(v)` (R160): the high byte at `sp -16 1`, then the low byte at `sp -16 2`. -/
def State.push16 (s : State) (v : Word) : State :=
  let s1 := s.setSp (s.sp - 1)
  let s2 := s1.writeByte s1.sp (hi8 v)
  let s3 := s2.setSp (s2.sp - 1)
  s3.writeByte s3.sp (lo8 v)

/-- `pop16()` (R161): the low byte from sp, then the high byte from `sp +16 1`; sp moves up by two. -/
def State.pop16 (s : State) : Word × State :=
  let lo := s.readByte s.sp
  let s1 := s.setSp (s.sp + 1)
  let hi := s1.readByte s1.sp
  let s2 := s1.setSp (s1.sp + 1)
  (joinBytes hi lo, s2)

/-! ## Fetch, and the failures of a step -/

/-- The fetch of a step (40_step_driver.md rule R102): the key into a decoder table, and whether the cycle is
prefixed. At most one 0xCB is consumed. -/
def State.fetch (s : State) : Byte × Bool :=
  if s.readByte s.pc = Config.prefixSentinel then (s.readByte (s.pc + 1), true) else (s.readByte s.pc, false)

/-- Raising a failure, the one operation in place of an exception entry: the core saves nothing, changes no mode and
transfers control nowhere (60_exceptions.md rule R205); it reports the failure to the host, and every register, flag
and memory byte stays (R201). The state after it is therefore `s`, and the outcome carries the report alone. -/
def raiseFailure (f : Fault) (_s : State) : Result := .fault f

/-- `raise UnknownOpcode(byte, prefixed)` (R10; 40_step_driver.md rule R103). -/
def raiseUnknownOpcode (byte : Byte) (prefixed : Bool) (s : State) : Result :=
  raiseFailure (.unknownOpcode byte prefixed) s

/-- `raise UnimplementedInstruction(byte, prefixed, instr)` (R10; 40_step_driver.md rule R105). The byte is the
instruction's own opcode byte, which is the byte the fetch looked up. -/
def raiseUnimplemented (i : Instr) (s : State) : Result :=
  raiseFailure (.unimplementedInstruction i.opcode i.isPrefixed i) s

end Sys2Proof.Machine
end

