-- ==== Sys2Proof/Machine/Flags.lean ====
section
/-! DEFINITION. The flags: the computations of ADD (41_arithmetic.md rule R120), the byte view F (10_state.md rules
R25-R27) and the Condition Test (R33). -/

namespace Sys2Proof.Machine

/-- Z after an 8-bit result (R120). -/
def zeroFlag (res : Byte) : Bool := res == 0

/-- H after an 8-bit addition: a carry out of bit 3 (R120). -/
def halfCarryFlag (a b : Byte) : Bool := decide ((a &&& 0x0F).toNat + (b &&& 0x0F).toNat > 0x0F)

/-- C after an 8-bit addition: the integer sum is over 0xFF (R120). -/
def carryFlag (sum : Nat) : Bool := decide (sum > 0xFF)

/-- One flag at its bit of F. -/
def flagBit (flag : Bool) (bit : Byte) : Byte := if flag then bit else 0

/-- F read as a byte (R25); bits 3-0 are 0. -/
def State.flagsByte (s : State) : Byte :=
  flagBit s.flagZ 0x80 ||| flagBit s.flagN 0x40 ||| flagBit s.flagH 0x20 ||| flagBit s.flagC 0x10

/-- F written as a byte (R26); bits 3-0 are discarded. -/
def State.setFlagsByte (s : State) (v : Byte) : State :=
  s.setFlags (v.getLsbD 7) (v.getLsbD 6) (v.getLsbD 5) (v.getLsbD 4)

/-- `cond(t)` against the current flags (R33). -/
def State.cond (s : State) : Test → Bool
  | .nz => !s.flagZ
  | .z => s.flagZ
  | .nc => !s.flagC
  | .c => s.flagC
  | .always => true

end Sys2Proof.Machine
end

