-- ==== Sys2Proof/Machine/Operands.lean ====
section
/-! DEFINITION. The operand forms: register pairs (10_state.md rules R28, R29), immediates (30_encoding.md rule R75)
and the sources and destinations of byte loads (43_load.md rule R140). -/

namespace Sys2Proof.Machine

/-- `pair[p]`: the first-named register is the high byte (R28). -/
def State.getPair (s : State) : StackPair → Word
  | .bc => joinBytes s.b s.c
  | .de => joinBytes s.d s.e
  | .hl => joinBytes s.h s.l
  | .af => joinBytes s.a s.flagsByte

/-- `pair[p] <- v` (R29); for AF the low byte goes to the flags (R26). -/
def State.setPair (s : State) (p : StackPair) (v : Word) : State :=
  match p with
  | .bc => (s.setReg .b (hi8 v)).setReg .c (lo8 v)
  | .de => (s.setReg .d (hi8 v)).setReg .e (lo8 v)
  | .hl => (s.setReg .h (hi8 v)).setReg .l (lo8 v)
  | .af => (s.setReg .a (hi8 v)).setFlagsByte (lo8 v)

/-- The address that (HL) names. -/
def State.addrHL (s : State) : Word := s.getPair .hl

/-- `imm8`, the byte after the opcode (R75). -/
def State.imm8 (s : State) : Byte := s.readByte (s.pc + 1)

/-- `imm16`, the two bytes after the opcode, low byte first (R75). -/
def State.imm16 (s : State) : Word := joinBytes (s.readByte (s.pc + 2)) (s.readByte (s.pc + 1))

/-- `read(src)` (R140). -/
def State.readSrc (s : State) : LoadSrc → Byte
  | .reg r => s.getReg r
  | .atHL => s.readByte s.addrHL
  | .d8 => s.imm8

/-- `write(dst, v)` (R140). -/
def State.writeDst (s : State) (dst : LoadDst) (v : Byte) : State :=
  match dst with
  | .reg r => s.setReg r v
  | .atHL => s.writeByte s.addrHL v

/-- `width(src)`, the width of a byte load (R140). -/
def loadWidth : LoadSrc → Word
  | .d8 => 2
  | .reg _ => 1
  | .atHL => 1

end Sys2Proof.Machine
end

