-- ==== Sys2Proof/Machine/Arithmetic.lean ====
section
/-! DEFINITION. The meanings of ADD A,r (41_arithmetic.md). -/

namespace Sys2Proof.Machine

/-- `ADD A,r` (R120): both operands are read before A is written; the old flags play no part. -/
def addRule (r : Reg8) (s : State) : Result :=
  let a := s.getReg .a
  let b := s.getReg r
  let sum := a.toNat + b.toNat
  let res : Byte := BitVec.ofNat 8 sum
  .next (((s.setReg .a res).setFlags (zeroFlag res) false (halfCarryFlag a b) (carryFlag sum)).setPc (s.pc + 1))

/-- `ADD A,B` (R120). -/
def execAddAB (s : State) : Result := addRule .b s

/-- `ADD A,C` (R120). -/
def execAddAC (s : State) : Result := addRule .c s

/-- `ADD A,D` (R120). -/
def execAddAD (s : State) : Result := addRule .d s

/-- `ADD A,E` (R120). -/
def execAddAE (s : State) : Result := addRule .e s

/-- `ADD A,H` (R120). -/
def execAddAH (s : State) : Result := addRule .h s

/-- `ADD A,L` (R120). -/
def execAddAL (s : State) : Result := addRule .l s

/-- `ADD A,A` (R120). -/
def execAddAA (s : State) : Result := addRule .a s

end Sys2Proof.Machine
end

