-- ==== Sys2Proof/Machine/Control.lean ====
section
/-! DEFINITION. The meanings of JP, CALL and RET (45_control.md). No flag is written; the ALWAYS test gives the unconditional forms. -/

namespace Sys2Proof.Machine

/-- `JP cc,a16` and `JP a16` (R170, R171). -/
def jpRule (t : Test) (s : State) : Result :=
  if s.cond t then .next (s.setPc s.imm16) else .next (s.setPc (s.pc + 3))

/-- `CALL cc,a16` and `CALL a16` (R172, R173): the return address is pushed, and then the target is read, from the
memory the push has just written. -/
def callRule (t : Test) (s : State) : Result :=
  let ret := s.pc + 3
  if s.cond t then
    let pushed := s.push16 ret
    .next (pushed.setPc pushed.imm16)
  else .next (s.setPc ret)

/-- `RET cc` and `RET` (R174, R175). -/
def retRule (t : Test) (s : State) : Result :=
  if s.cond t then
    let popped := s.pop16
    .next (popped.2.setPc popped.1)
  else .next (s.setPc (s.pc + 1))

/-- `JP NZ,a16` (R170). -/
def execJpNZ (s : State) : Result := jpRule .nz s

/-- `JP a16` (R171). -/
def execJp (s : State) : Result := jpRule .always s

/-- `JP Z,a16` (R170). -/
def execJpZ (s : State) : Result := jpRule .z s

/-- `JP NC,a16` (R170). -/
def execJpNC (s : State) : Result := jpRule .nc s

/-- `JP C,a16` (R170). -/
def execJpC (s : State) : Result := jpRule .c s

/-- `CALL NZ,a16` (R172). -/
def execCallNZ (s : State) : Result := callRule .nz s

/-- `CALL Z,a16` (R172). -/
def execCallZ (s : State) : Result := callRule .z s

/-- `CALL a16` (R173). -/
def execCall (s : State) : Result := callRule .always s

/-- `CALL NC,a16` (R172). -/
def execCallNC (s : State) : Result := callRule .nc s

/-- `CALL C,a16` (R172). -/
def execCallC (s : State) : Result := callRule .c s

/-- `RET NZ` (R174). -/
def execRetNZ (s : State) : Result := retRule .nz s

/-- `RET Z` (R174). -/
def execRetZ (s : State) : Result := retRule .z s

/-- `RET` (R175). -/
def execRet (s : State) : Result := retRule .always s

/-- `RET NC` (R174). -/
def execRetNC (s : State) : Result := retRule .nc s

/-- `RET C` (R174). -/
def execRetC (s : State) : Result := retRule .c s

end Sys2Proof.Machine
end

