-- ==== Sys2Proof/Machine/IncDec.lean ====
section
/-! DEFINITION. The meanings of the 16-bit INC and DEC (42_incdec.md). No flag is written. -/

namespace Sys2Proof.Machine

/-- `INC rr` (R130). -/
def incRule (p : Pair16) (s : State) : Result :=
  .next ((s.setPair p.toStack (s.getPair p.toStack + 1)).setPc (s.pc + 1))

/-- `DEC rr` (R131). -/
def decRule (p : Pair16) (s : State) : Result :=
  .next ((s.setPair p.toStack (s.getPair p.toStack - 1)).setPc (s.pc + 1))

/-- `INC BC` (R130). -/
def execIncBC (s : State) : Result := incRule .bc s

/-- `INC DE` (R130). -/
def execIncDE (s : State) : Result := incRule .de s

/-- `INC HL` (R130). -/
def execIncHL (s : State) : Result := incRule .hl s

/-- `DEC BC` (R131). -/
def execDecBC (s : State) : Result := decRule .bc s

/-- `DEC DE` (R131). -/
def execDecDE (s : State) : Result := decRule .de s

/-- `DEC HL` (R131). -/
def execDecHL (s : State) : Result := decRule .hl s

end Sys2Proof.Machine
end

