-- ==== Sys2Proof/Machine/Load.lean ====
section
/-! DEFINITION. The meanings of the byte loads (43_load.md). No flag is written. -/

namespace Sys2Proof.Machine

/-- `LD(dst, src)` (R140-R145): the source is read wholly before the destination is written. -/
def loadRule (dst : LoadDst) (src : LoadSrc) (s : State) : Result :=
  let v := s.readSrc src
  .next ((s.writeDst dst v).setPc (s.pc + loadWidth src))

/-- `LD B,d8` (R144). -/
def execLdBD8 (s : State) : Result := loadRule (.reg .b) .d8 s

/-- `LD C,d8` (R144). -/
def execLdCD8 (s : State) : Result := loadRule (.reg .c) .d8 s

/-- `LD D,d8` (R144). -/
def execLdDD8 (s : State) : Result := loadRule (.reg .d) .d8 s

/-- `LD E,d8` (R144). -/
def execLdED8 (s : State) : Result := loadRule (.reg .e) .d8 s

/-- `LD H,d8` (R144). -/
def execLdHD8 (s : State) : Result := loadRule (.reg .h) .d8 s

/-- `LD L,d8` (R144). -/
def execLdLD8 (s : State) : Result := loadRule (.reg .l) .d8 s

/-- `LD (HL),d8` (R145). -/
def execLdAtHLD8 (s : State) : Result := loadRule .atHL .d8 s

/-- `LD A,d8` (R144). -/
def execLdAD8 (s : State) : Result := loadRule (.reg .a) .d8 s

/-- `LD B,B` (R141). -/
def execLdBB (s : State) : Result := loadRule (.reg .b) (.reg .b) s

/-- `LD B,C` (R141). -/
def execLdBC (s : State) : Result := loadRule (.reg .b) (.reg .c) s

/-- `LD B,D` (R141). -/
def execLdBD (s : State) : Result := loadRule (.reg .b) (.reg .d) s

/-- `LD B,E` (R141). -/
def execLdBE (s : State) : Result := loadRule (.reg .b) (.reg .e) s

/-- `LD B,H` (R141). -/
def execLdBH (s : State) : Result := loadRule (.reg .b) (.reg .h) s

/-- `LD B,L` (R141). -/
def execLdBL (s : State) : Result := loadRule (.reg .b) (.reg .l) s

/-- `LD B,(HL)` (R142). -/
def execLdBAtHL (s : State) : Result := loadRule (.reg .b) .atHL s

/-- `LD B,A` (R141). -/
def execLdBA (s : State) : Result := loadRule (.reg .b) (.reg .a) s

/-- `LD C,B` (R141). -/
def execLdCB (s : State) : Result := loadRule (.reg .c) (.reg .b) s

/-- `LD C,C` (R141). -/
def execLdCC (s : State) : Result := loadRule (.reg .c) (.reg .c) s

/-- `LD C,D` (R141). -/
def execLdCD (s : State) : Result := loadRule (.reg .c) (.reg .d) s

/-- `LD C,E` (R141). -/
def execLdCE (s : State) : Result := loadRule (.reg .c) (.reg .e) s

/-- `LD C,H` (R141). -/
def execLdCH (s : State) : Result := loadRule (.reg .c) (.reg .h) s

/-- `LD C,L` (R141). -/
def execLdCL (s : State) : Result := loadRule (.reg .c) (.reg .l) s

/-- `LD C,(HL)` (R142). -/
def execLdCAtHL (s : State) : Result := loadRule (.reg .c) .atHL s

/-- `LD C,A` (R141). -/
def execLdCA (s : State) : Result := loadRule (.reg .c) (.reg .a) s

/-- `LD D,B` (R141). -/
def execLdDB (s : State) : Result := loadRule (.reg .d) (.reg .b) s

/-- `LD D,C` (R141). -/
def execLdDC (s : State) : Result := loadRule (.reg .d) (.reg .c) s

/-- `LD D,D` (R141). -/
def execLdDD (s : State) : Result := loadRule (.reg .d) (.reg .d) s

/-- `LD D,E` (R141). -/
def execLdDE (s : State) : Result := loadRule (.reg .d) (.reg .e) s

/-- `LD D,H` (R141). -/
def execLdDH (s : State) : Result := loadRule (.reg .d) (.reg .h) s

/-- `LD D,L` (R141). -/
def execLdDL (s : State) : Result := loadRule (.reg .d) (.reg .l) s

/-- `LD D,(HL)` (R142). -/
def execLdDAtHL (s : State) : Result := loadRule (.reg .d) .atHL s

/-- `LD D,A` (R141). -/
def execLdDA (s : State) : Result := loadRule (.reg .d) (.reg .a) s

/-- `LD E,B` (R141). -/
def execLdEB (s : State) : Result := loadRule (.reg .e) (.reg .b) s

/-- `LD E,C` (R141). -/
def execLdEC (s : State) : Result := loadRule (.reg .e) (.reg .c) s

/-- `LD E,D` (R141). -/
def execLdED (s : State) : Result := loadRule (.reg .e) (.reg .d) s

/-- `LD E,E` (R141). -/
def execLdEE (s : State) : Result := loadRule (.reg .e) (.reg .e) s

/-- `LD E,H` (R141). -/
def execLdEH (s : State) : Result := loadRule (.reg .e) (.reg .h) s

/-- `LD E,L` (R141). -/
def execLdEL (s : State) : Result := loadRule (.reg .e) (.reg .l) s

/-- `LD E,(HL)` (R142). -/
def execLdEAtHL (s : State) : Result := loadRule (.reg .e) .atHL s

/-- `LD E,A` (R141). -/
def execLdEA (s : State) : Result := loadRule (.reg .e) (.reg .a) s

/-- `LD H,B` (R141). -/
def execLdHB (s : State) : Result := loadRule (.reg .h) (.reg .b) s

/-- `LD H,C` (R141). -/
def execLdHC (s : State) : Result := loadRule (.reg .h) (.reg .c) s

/-- `LD H,D` (R141). -/
def execLdHD (s : State) : Result := loadRule (.reg .h) (.reg .d) s

/-- `LD H,E` (R141). -/
def execLdHE (s : State) : Result := loadRule (.reg .h) (.reg .e) s

/-- `LD H,H` (R141). -/
def execLdHH (s : State) : Result := loadRule (.reg .h) (.reg .h) s

/-- `LD H,L` (R141). -/
def execLdHL (s : State) : Result := loadRule (.reg .h) (.reg .l) s

/-- `LD H,(HL)` (R142). -/
def execLdHAtHL (s : State) : Result := loadRule (.reg .h) .atHL s

/-- `LD H,A` (R141). -/
def execLdHA (s : State) : Result := loadRule (.reg .h) (.reg .a) s

/-- `LD L,B` (R141). -/
def execLdLB (s : State) : Result := loadRule (.reg .l) (.reg .b) s

/-- `LD L,C` (R141). -/
def execLdLC (s : State) : Result := loadRule (.reg .l) (.reg .c) s

/-- `LD L,D` (R141). -/
def execLdLD (s : State) : Result := loadRule (.reg .l) (.reg .d) s

/-- `LD L,E` (R141). -/
def execLdLE (s : State) : Result := loadRule (.reg .l) (.reg .e) s

/-- `LD L,H` (R141). -/
def execLdLH (s : State) : Result := loadRule (.reg .l) (.reg .h) s

/-- `LD L,L` (R141). -/
def execLdLL (s : State) : Result := loadRule (.reg .l) (.reg .l) s

/-- `LD L,(HL)` (R142). -/
def execLdLAtHL (s : State) : Result := loadRule (.reg .l) .atHL s

/-- `LD L,A` (R141). -/
def execLdLA (s : State) : Result := loadRule (.reg .l) (.reg .a) s

/-- `LD (HL),B` (R143). -/
def execLdAtHLB (s : State) : Result := loadRule .atHL (.reg .b) s

/-- `LD (HL),C` (R143). -/
def execLdAtHLC (s : State) : Result := loadRule .atHL (.reg .c) s

/-- `LD (HL),D` (R143). -/
def execLdAtHLD (s : State) : Result := loadRule .atHL (.reg .d) s

/-- `LD (HL),E` (R143). -/
def execLdAtHLE (s : State) : Result := loadRule .atHL (.reg .e) s

/-- `LD (HL),H` (R143). -/
def execLdAtHLH (s : State) : Result := loadRule .atHL (.reg .h) s

/-- `LD (HL),L` (R143). -/
def execLdAtHLL (s : State) : Result := loadRule .atHL (.reg .l) s

/-- `LD (HL),A` (R143). -/
def execLdAtHLA (s : State) : Result := loadRule .atHL (.reg .a) s

/-- `LD A,B` (R141). -/
def execLdAB (s : State) : Result := loadRule (.reg .a) (.reg .b) s

/-- `LD A,C` (R141). -/
def execLdAC (s : State) : Result := loadRule (.reg .a) (.reg .c) s

/-- `LD A,D` (R141). -/
def execLdAD (s : State) : Result := loadRule (.reg .a) (.reg .d) s

/-- `LD A,E` (R141). -/
def execLdAE (s : State) : Result := loadRule (.reg .a) (.reg .e) s

/-- `LD A,H` (R141). -/
def execLdAH (s : State) : Result := loadRule (.reg .a) (.reg .h) s

/-- `LD A,L` (R141). -/
def execLdAL (s : State) : Result := loadRule (.reg .a) (.reg .l) s

/-- `LD A,(HL)` (R142). -/
def execLdAAtHL (s : State) : Result := loadRule (.reg .a) .atHL s

/-- `LD A,A` (R141). -/
def execLdAA (s : State) : Result := loadRule (.reg .a) (.reg .a) s

end Sys2Proof.Machine
end

