-- ==== Sys2Proof/Machine/Prefixed.lean ====
section
/-! DEFINITION. The meanings of the prefixed rotates (46_prefixed.md): decoded, and then always the UnimplementedInstruction
failure, with no state change and no read beyond the two fetch bytes (R190, R191; 92 D6). -/

namespace Sys2Proof.Machine

/-- `RLC B` (R190). -/
def execRlcB (s : State) : Result := raiseUnimplemented .rlcB s

/-- `RLC C` (R190). -/
def execRlcC (s : State) : Result := raiseUnimplemented .rlcC s

/-- `RLC D` (R190). -/
def execRlcD (s : State) : Result := raiseUnimplemented .rlcD s

/-- `RLC E` (R190). -/
def execRlcE (s : State) : Result := raiseUnimplemented .rlcE s

/-- `RLC H` (R190). -/
def execRlcH (s : State) : Result := raiseUnimplemented .rlcH s

/-- `RLC L` (R190). -/
def execRlcL (s : State) : Result := raiseUnimplemented .rlcL s

/-- `RLC (HL)` (R191). -/
def execRlcAtHL (s : State) : Result := raiseUnimplemented .rlcAtHL s

/-- `RLC A` (R190). -/
def execRlcA (s : State) : Result := raiseUnimplemented .rlcA s

end Sys2Proof.Machine
end

