-- ==== Sys2Proof/Machine/Stack.lean ====
section
/-! DEFINITION. The meanings of PUSH and POP (44_stack.md). -/

namespace Sys2Proof.Machine

/-- `PUSH qq` (R162): the pair is read, then pushed (R160). -/
def pushRule (q : StackPair) (s : State) : Result :=
  .next ((s.push16 (s.getPair q)).setPc (s.pc + 1))

/-- `POP qq` (R163) and `POP AF` (R164): a word is popped (R161), then written to the pair. -/
def popRule (q : StackPair) (s : State) : Result :=
  let popped := s.pop16
  .next ((popped.2.setPair q popped.1).setPc (s.pc + 1))

/-- `PUSH BC` (R162). -/
def execPushBC (s : State) : Result := pushRule .bc s

/-- `PUSH DE` (R162). -/
def execPushDE (s : State) : Result := pushRule .de s

/-- `PUSH HL` (R162). -/
def execPushHL (s : State) : Result := pushRule .hl s

/-- `PUSH AF` (R162). -/
def execPushAF (s : State) : Result := pushRule .af s

/-- `POP BC` (R163). -/
def execPopBC (s : State) : Result := popRule .bc s

/-- `POP DE` (R163). -/
def execPopDE (s : State) : Result := popRule .de s

/-- `POP HL` (R163). -/
def execPopHL (s : State) : Result := popRule .hl s

/-- `POP AF` (R164). -/
def execPopAF (s : State) : Result := popRule .af s

end Sys2Proof.Machine
end

