-- ==== Sys2Proof/Machine/Dispatch.lean ====
section
/-! DEFINITION. The dispatch on the decoded instruction (40_step_driver.md rule R105): one arm per constructor. -/

namespace Sys2Proof.Machine

/-- Execute one decoded instruction: its effect and the commit of the next_pc its rule returns (R104). -/
def exec (i : Instr) (s : State) : Host.Outcome State Fault Refusal :=
  match i with
  | .incBC => Sys2Proof.Machine.execIncBC s
  | .ldBD8 => Sys2Proof.Machine.execLdBD8 s
  | .decBC => Sys2Proof.Machine.execDecBC s
  | .ldCD8 => Sys2Proof.Machine.execLdCD8 s
  | .incDE => Sys2Proof.Machine.execIncDE s
  | .ldDD8 => Sys2Proof.Machine.execLdDD8 s
  | .decDE => Sys2Proof.Machine.execDecDE s
  | .ldED8 => Sys2Proof.Machine.execLdED8 s
  | .incHL => Sys2Proof.Machine.execIncHL s
  | .ldHD8 => Sys2Proof.Machine.execLdHD8 s
  | .decHL => Sys2Proof.Machine.execDecHL s
  | .ldLD8 => Sys2Proof.Machine.execLdLD8 s
  | .ldAtHLD8 => Sys2Proof.Machine.execLdAtHLD8 s
  | .ldAD8 => Sys2Proof.Machine.execLdAD8 s
  | .ldBB => Sys2Proof.Machine.execLdBB s
  | .ldBC => Sys2Proof.Machine.execLdBC s
  | .ldBD => Sys2Proof.Machine.execLdBD s
  | .ldBE => Sys2Proof.Machine.execLdBE s
  | .ldBH => Sys2Proof.Machine.execLdBH s
  | .ldBL => Sys2Proof.Machine.execLdBL s
  | .ldBAtHL => Sys2Proof.Machine.execLdBAtHL s
  | .ldBA => Sys2Proof.Machine.execLdBA s
  | .ldCB => Sys2Proof.Machine.execLdCB s
  | .ldCC => Sys2Proof.Machine.execLdCC s
  | .ldCD => Sys2Proof.Machine.execLdCD s
  | .ldCE => Sys2Proof.Machine.execLdCE s
  | .ldCH => Sys2Proof.Machine.execLdCH s
  | .ldCL => Sys2Proof.Machine.execLdCL s
  | .ldCAtHL => Sys2Proof.Machine.execLdCAtHL s
  | .ldCA => Sys2Proof.Machine.execLdCA s
  | .ldDB => Sys2Proof.Machine.execLdDB s
  | .ldDC => Sys2Proof.Machine.execLdDC s
  | .ldDD => Sys2Proof.Machine.execLdDD s
  | .ldDE => Sys2Proof.Machine.execLdDE s
  | .ldDH => Sys2Proof.Machine.execLdDH s
  | .ldDL => Sys2Proof.Machine.execLdDL s
  | .ldDAtHL => Sys2Proof.Machine.execLdDAtHL s
  | .ldDA => Sys2Proof.Machine.execLdDA s
  | .ldEB => Sys2Proof.Machine.execLdEB s
  | .ldEC => Sys2Proof.Machine.execLdEC s
  | .ldED => Sys2Proof.Machine.execLdED s
  | .ldEE => Sys2Proof.Machine.execLdEE s
  | .ldEH => Sys2Proof.Machine.execLdEH s
  | .ldEL => Sys2Proof.Machine.execLdEL s
  | .ldEAtHL => Sys2Proof.Machine.execLdEAtHL s
  | .ldEA => Sys2Proof.Machine.execLdEA s
  | .ldHB => Sys2Proof.Machine.execLdHB s
  | .ldHC => Sys2Proof.Machine.execLdHC s
  | .ldHD => Sys2Proof.Machine.execLdHD s
  | .ldHE => Sys2Proof.Machine.execLdHE s
  | .ldHH => Sys2Proof.Machine.execLdHH s
  | .ldHL => Sys2Proof.Machine.execLdHL s
  | .ldHAtHL => Sys2Proof.Machine.execLdHAtHL s
  | .ldHA => Sys2Proof.Machine.execLdHA s
  | .ldLB => Sys2Proof.Machine.execLdLB s
  | .ldLC => Sys2Proof.Machine.execLdLC s
  | .ldLD => Sys2Proof.Machine.execLdLD s
  | .ldLE => Sys2Proof.Machine.execLdLE s
  | .ldLH => Sys2Proof.Machine.execLdLH s
  | .ldLL => Sys2Proof.Machine.execLdLL s
  | .ldLAtHL => Sys2Proof.Machine.execLdLAtHL s
  | .ldLA => Sys2Proof.Machine.execLdLA s
  | .ldAtHLB => Sys2Proof.Machine.execLdAtHLB s
  | .ldAtHLC => Sys2Proof.Machine.execLdAtHLC s
  | .ldAtHLD => Sys2Proof.Machine.execLdAtHLD s
  | .ldAtHLE => Sys2Proof.Machine.execLdAtHLE s
  | .ldAtHLH => Sys2Proof.Machine.execLdAtHLH s
  | .ldAtHLL => Sys2Proof.Machine.execLdAtHLL s
  | .ldAtHLA => Sys2Proof.Machine.execLdAtHLA s
  | .ldAB => Sys2Proof.Machine.execLdAB s
  | .ldAC => Sys2Proof.Machine.execLdAC s
  | .ldAD => Sys2Proof.Machine.execLdAD s
  | .ldAE => Sys2Proof.Machine.execLdAE s
  | .ldAH => Sys2Proof.Machine.execLdAH s
  | .ldAL => Sys2Proof.Machine.execLdAL s
  | .ldAAtHL => Sys2Proof.Machine.execLdAAtHL s
  | .ldAA => Sys2Proof.Machine.execLdAA s
  | .addAB => Sys2Proof.Machine.execAddAB s
  | .addAC => Sys2Proof.Machine.execAddAC s
  | .addAD => Sys2Proof.Machine.execAddAD s
  | .addAE => Sys2Proof.Machine.execAddAE s
  | .addAH => Sys2Proof.Machine.execAddAH s
  | .addAL => Sys2Proof.Machine.execAddAL s
  | .addAA => Sys2Proof.Machine.execAddAA s
  | .retNZ => Sys2Proof.Machine.execRetNZ s
  | .popBC => Sys2Proof.Machine.execPopBC s
  | .jpNZ => Sys2Proof.Machine.execJpNZ s
  | .jp => Sys2Proof.Machine.execJp s
  | .callNZ => Sys2Proof.Machine.execCallNZ s
  | .pushBC => Sys2Proof.Machine.execPushBC s
  | .retZ => Sys2Proof.Machine.execRetZ s
  | .ret => Sys2Proof.Machine.execRet s
  | .jpZ => Sys2Proof.Machine.execJpZ s
  | .callZ => Sys2Proof.Machine.execCallZ s
  | .call => Sys2Proof.Machine.execCall s
  | .retNC => Sys2Proof.Machine.execRetNC s
  | .popDE => Sys2Proof.Machine.execPopDE s
  | .jpNC => Sys2Proof.Machine.execJpNC s
  | .callNC => Sys2Proof.Machine.execCallNC s
  | .pushDE => Sys2Proof.Machine.execPushDE s
  | .retC => Sys2Proof.Machine.execRetC s
  | .jpC => Sys2Proof.Machine.execJpC s
  | .callC => Sys2Proof.Machine.execCallC s
  | .popHL => Sys2Proof.Machine.execPopHL s
  | .pushHL => Sys2Proof.Machine.execPushHL s
  | .popAF => Sys2Proof.Machine.execPopAF s
  | .pushAF => Sys2Proof.Machine.execPushAF s
  | .rlcB => Sys2Proof.Machine.execRlcB s
  | .rlcC => Sys2Proof.Machine.execRlcC s
  | .rlcD => Sys2Proof.Machine.execRlcD s
  | .rlcE => Sys2Proof.Machine.execRlcE s
  | .rlcH => Sys2Proof.Machine.execRlcH s
  | .rlcL => Sys2Proof.Machine.execRlcL s
  | .rlcAtHL => Sys2Proof.Machine.execRlcAtHL s
  | .rlcA => Sys2Proof.Machine.execRlcA s

end Sys2Proof.Machine
end

