-- ==== Sys2Proof/Machine/Step.lean ====
section
/-! DEFINITION. The step driver (40_step_driver.md rule R101): fetch, decode, execute, commit. -/

namespace Sys2Proof.Machine

/-- One step (R101, R107): memory is read afresh at pc; a decode failure is reported as UnknownOpcode with the byte
looked up (R103); a decoded instruction is executed, which commits its next_pc (R104). -/
def step (s : State) : Host.Outcome State Fault Refusal :=
  match decode s.fetch.1 s.fetch.2 with
  | none => raiseUnknownOpcode s.fetch.1 s.fetch.2 s
  | some i => exec i s

/-- `s` with the table word's instruction stored at pc, where the step fetches, wrapping past 0xFFFF. Nothing else is
changed (log entries 3 and 5). -/
def State.withFetchWord (s : State) (nbits w : Nat) : State := s.writeBytes s.pc (tableBytes nbits w)

end Sys2Proof.Machine
end

