-- ==== Sys2Proof/Machine/HostPort.lean ====
section
/-! DEFINITION. The block's interface to its host (60_exceptions.md rules R200, R201, R215, R216): the outcome of a step
request with the state it leaves, the byte ports, and the loading of a program image. -/

namespace Sys2Proof.Machine

/-- The outcome the host receives from a step (40_step_driver.md rule R100; 60_exceptions.md rule R200). -/
inductive Report where
  | ok
  | unknownOpcode (byte : Byte) (prefixed : Bool)
  | unimplementedInstruction (byte : Byte) (prefixed : Bool) (instr : Instr)
  /-- No outcome of the spec: the model's own refusal, which no instruction raises. -/
  | noMeaning
  deriving DecidableEq, Repr

/-- The numeric code of an outcome (R200). -/
def Report.code : Report → Option Nat
  | .ok => some 0
  | .unknownOpcode _ _ => some 1
  | .unimplementedInstruction _ _ _ => some 2
  | .noMeaning => none

/-- What the host sees of an outcome. -/
def reportOf : Result → Report
  | .next _ => .ok
  | .fault (.unknownOpcode b p) => .unknownOpcode b p
  | .fault (.unimplementedInstruction b p i) => .unimplementedInstruction b p i
  | .refused _ => .noMeaning

/-- The state that an outcome leaves: on a failure, the state from before the step (R201). -/
def stateAfter (s : State) : Result → State
  | .next t => t
  | .fault _ => s
  | .refused _ => s

/-- The `step` port: one step request, its report and the state after it (R215). A failure is not fatal: the host may
request a step again (R208). -/
def State.request (s : State) : Report × State := (reportOf (step s), stateAfter s (step s))

/-- The `read_byte` port, used between steps (R215). -/
def State.hostRead (s : State) (a : Word) : Byte := s.readByte a

/-- The `write_byte` port, used between steps (R215). -/
def State.hostWrite (s : State) (a : Word) (v : Byte) : State := s.writeByte a v

/-- Loading an image: host writes in order (R216; 70_reset_and_hazards.md rule R232). -/
def State.loadImage (s : State) : List (Word × Byte) → State
  | [] => s
  | (a, v) :: rest => (s.hostWrite a v).loadImage rest

end Sys2Proof.Machine
end

