-- ==== Sys2Proof/Safety.lean ====
section
/-! DEFINITION. What claims count as a legal state and as a safe step. -/

namespace Sys2Proof.Machine

/-- The invariant of the model: memory is in its canonical form, so that equal memories are equal data, and lists only
addresses of the 16-bit address space (20_memory.md rule R50). Widths hold by type (10_state.md rule R22). -/
abbrev State.Inv (s : State) : Prop := s.mem.wf

/-- The step's outcome is Ok (60_exceptions.md rule R200). -/
def State.StepsOk (s : State) : Prop := ∃ t, step s = .next t

end Sys2Proof.Machine
end

