-- ==== Sys2Proof/Certificates/Slice0/Obligations.lean ====
section
/-! DEFINITION. The statements for the provers, from the numbered rules of spec/. Helper definitions stand under
`Sys2Proof.Claims`: they restate what a rule says in plain arithmetic or copy a list of the rule, so that a statement
does not borrow the model's own computation. -/

namespace Sys2Proof.Claims

open Sys2Proof.Machine

/-- A pair's value by 10_state.md rule R28, as arithmetic. -/
def pairValue (s : State) : Pair16 → Nat
  | .bc => s.b.toNat * 256 + s.c.toNat
  | .de => s.d.toNat * 256 + s.e.toNat
  | .hl => s.h.toNat * 256 + s.l.toNat

/-- A pair written by rule R29, as arithmetic. -/
def withPair (s : State) (p : Pair16) (n : Nat) : State :=
  match p with
  | .bc => { s with b := BitVec.ofNat 8 (n / 256), c := BitVec.ofNat 8 (n % 256) }
  | .de => { s with d := BitVec.ofNat 8 (n / 256), e := BitVec.ofNat 8 (n % 256) }
  | .hl => { s with h := BitVec.ofNat 8 (n / 256), l := BitVec.ofNat 8 (n % 256) }

/-- The flags that a byte written to F sets, by rule R26, as arithmetic. -/
def withFlags (s : State) (n : Nat) : State :=
  { s with
    flagZ := decide (n / 128 % 2 = 1)
    flagN := decide (n / 64 % 2 = 1)
    flagH := decide (n / 32 % 2 = 1)
    flagC := decide (n / 16 % 2 = 1) }

/-- F read by rule R25, as arithmetic. -/
def flagsValue (s : State) : Nat :=
  128 * s.flagZ.toNat + 64 * s.flagN.toNat + 32 * s.flagH.toNat + 16 * s.flagC.toNat

/-- The address in HL. -/
def addressHL (s : State) : Word := BitVec.ofNat 16 (s.h.toNat * 256 + s.l.toNat)

/-- The little-endian word at an address, as arithmetic (20_memory.md rule R54). -/
def wordAt (s : State) (a : Word) : Word :=
  BitVec.ofNat 16 ((s.readByte (a + 1)).toNat * 256 + (s.readByte a).toNat)

/-- The high byte that PUSH stores (44_stack.md rule R162). -/
def pushedHigh (s : State) : StackPair → Byte
  | .bc => s.b
  | .de => s.d
  | .hl => s.h
  | .af => s.a

/-- The low byte that PUSH stores (44_stack.md rule R162). -/
def pushedLow (s : State) : StackPair → Byte
  | .bc => s.c
  | .de => s.e
  | .hl => s.l
  | .af => BitVec.ofNat 8 (flagsValue s)

/-- A word stored below sp, the high byte first, sp moved down by two (44_stack.md rule R160). -/
def withPushed (s : State) (high low : Byte) : State :=
  { (s.writeByte (s.sp - 1) high).writeByte (s.sp - 2) low with sp := s.sp - 2 }

/-- The 148 unmapped primary bytes, copied from 30_encoding.md rule R80. -/
def unmappedPrimary : List Nat :=
  [0x00, 0x01, 0x02, 0x04, 0x05, 0x07, 0x08, 0x09, 0x0A, 0x0C, 0x0D, 0x0F, 0x10, 0x11, 0x12, 0x14, 0x15, 0x17] ++
  [0x18, 0x19, 0x1A, 0x1C, 0x1D, 0x1F, 0x20, 0x21, 0x22, 0x24, 0x25, 0x27, 0x28, 0x29, 0x2A, 0x2C, 0x2D, 0x2F] ++
  [0x30, 0x31, 0x32, 0x33, 0x34, 0x35, 0x37, 0x38, 0x39, 0x3A, 0x3B, 0x3C, 0x3D, 0x3F, 0x76, 0x86] ++
  List.range' 0x88 56 ++
  [0xC6, 0xC7, 0xCE, 0xCF, 0xD3, 0xD6, 0xD7, 0xD9, 0xDB, 0xDD, 0xDE, 0xDF, 0xE0, 0xE2, 0xE3, 0xE4, 0xE6, 0xE7] ++
  [0xE8, 0xE9, 0xEA, 0xEB, 0xEC, 0xED, 0xEE, 0xEF, 0xF0, 0xF2, 0xF3, 0xF4, 0xF6, 0xF7, 0xF8, 0xF9, 0xFA, 0xFB] ++
  [0xFC, 0xFD, 0xFE, 0xFF]

/-- Which general registers an instruction writes: the table of 10_state.md rule R39. -/
def writesReg : Form → Reg8 → Bool
  | .add _, r => r == .a
  | .inc .bc, r => r == .b || r == .c
  | .inc .de, r => r == .d || r == .e
  | .inc .hl, r => r == .h || r == .l
  | .dec .bc, r => r == .b || r == .c
  | .dec .de, r => r == .d || r == .e
  | .dec .hl, r => r == .h || r == .l
  | .ld (.reg rd) _, r => r == rd
  | .ld .atHL _, _ => false
  | .push _, _ => false
  | .pop .bc, r => r == .b || r == .c
  | .pop .de, r => r == .d || r == .e
  | .pop .hl, r => r == .h || r == .l
  | .pop .af, r => r == .a
  | .jp _, _ => false
  | .call _, _ => false
  | .ret _, _ => false
  | .rlc _, _ => false

/-- Which instructions write the flags: ADD and POP AF (rule R39; rule R24). -/
def writesFlags : Form → Bool
  | .add _ => true
  | .pop .af => true
  | .pop .bc => false
  | .pop .de => false
  | .pop .hl => false
  | .inc _ => false
  | .dec _ => false
  | .ld _ _ => false
  | .push _ => false
  | .jp _ => false
  | .call _ => false
  | .ret _ => false
  | .rlc _ => false

/-- sp after an instruction (rules R32, R39): two lower after PUSH and a taken CALL, two higher after POP and a taken
RET, else as it was. -/
def spAfter (s : State) : Form → Word
  | .push _ => s.sp - 2
  | .call t => if s.cond t then s.sp - 2 else s.sp
  | .pop _ => s.sp + 2
  | .ret t => if s.cond t then s.sp + 2 else s.sp
  | .add _ => s.sp
  | .inc _ => s.sp
  | .dec _ => s.sp
  | .ld _ _ => s.sp
  | .jp _ => s.sp
  | .rlc _ => s.sp

/-- The addresses an instruction stores a byte to (rule R39): HL for a load to (HL), the two bytes below sp for PUSH
and a taken CALL, else none. -/
def storedTo (s : State) : Form → List Word
  | .ld .atHL _ => [s.addrHL]
  | .ld (.reg _) _ => []
  | .push _ => [s.sp - 1, s.sp - 2]
  | .call t => if s.cond t then [s.sp - 1, s.sp - 2] else []
  | .add _ => []
  | .inc _ => []
  | .dec _ => []
  | .pop _ => []
  | .jp _ => []
  | .ret _ => []
  | .rlc _ => []

/-- next_pc by category: the table of 40_step_driver.md rule R109. The target of a taken CALL is read after the push
of the return address. -/
def nextPc (s : State) : Form → Word
  | .add _ => s.pc + 1
  | .inc _ => s.pc + 1
  | .dec _ => s.pc + 1
  | .ld _ (.reg _) => s.pc + 1
  | .ld _ .atHL => s.pc + 1
  | .ld _ .d8 => s.pc + 2
  | .push _ => s.pc + 1
  | .pop _ => s.pc + 1
  | .jp t => if s.cond t then wordAt s (s.pc + 1) else s.pc + 3
  | .call t => if s.cond t then wordAt (s.push16 (s.pc + 3)) (s.pc + 1) else s.pc + 3
  | .ret t => if s.cond t then wordAt s s.sp else s.pc + 1
  | .rlc _ => s.pc

/-- The prefixed rotates. -/
def isRotate : Form → Bool
  | .rlc _ => true
  | .add _ => false
  | .inc _ => false
  | .dec _ => false
  | .ld _ _ => false
  | .push _ => false
  | .pop _ => false
  | .jp _ => false
  | .call _ => false
  | .ret _ => false

/-- The control transfers of 45_control.md. -/
def isTransfer : Form → Bool
  | .jp _ => true
  | .call _ => true
  | .ret _ => true
  | .add _ => false
  | .inc _ => false
  | .dec _ => false
  | .ld _ _ => false
  | .push _ => false
  | .pop _ => false
  | .rlc _ => false

/-- Length by category: the table of 30_encoding.md rule R70. -/
def lengthTable : Form → Nat
  | .add _ => 1
  | .inc _ => 1
  | .dec _ => 1
  | .ld _ (.reg _) => 1
  | .ld _ .atHL => 1
  | .ld _ .d8 => 2
  | .push _ => 1
  | .pop _ => 1
  | .jp _ => 3
  | .call _ => 3
  | .ret _ => 1
  | .rlc _ => 2

end Sys2Proof.Claims

open Sys2Proof Sys2Proof.Machine Sys2Proof.Claims

/-! ## Encoding and the decoder (30_encoding.md) -/

/-- Words written out bit by bit from rules R71-R74 decode to what they stand for, one or more for each family. -/
def Obligations.SpecWordsDecode : Prop :=
  decode 0b10000001 false = some .addAC ∧ decode 0b00100011 false = some .incHL ∧
  decode 0b00011011 false = some .decDE ∧ decode 0b01111000 false = some .ldAB ∧
  decode 0b01100110 false = some .ldHAtHL ∧ decode 0b01110101 false = some .ldAtHLL ∧
  decode 0b00011110 false = some .ldED8 ∧ decode 0b00110110 false = some .ldAtHLD8 ∧
  decode 0b11110101 false = some .pushAF ∧ decode 0b11010001 false = some .popDE ∧
  decode 0b11010010 false = some .jpNC ∧ decode 0b11000011 false = some .jp ∧
  decode 0b11011100 false = some .callC ∧ decode 0b11001101 false = some .call ∧
  decode 0b11001000 false = some .retZ ∧ decode 0b11001001 false = some .ret ∧
  decode 0b00000110 true = some .rlcAtHL

/-- R80, R81: exactly the 148 listed bytes and the prefix sentinel have no primary entry, exactly 08-FF have no
prefixed entry, and a step on any of them ends with UnknownOpcode. -/
def Obligations.UnmappedBytesFail : Prop :=
  unmappedPrimary.length = 148 ∧
  (∀ b : Byte, decode b false = none ↔ b.toNat ∈ unmappedPrimary ∨ b = 0xCB) ∧
  (∀ b : Byte, decode b true = none ↔ 8 ≤ b.toNat) ∧
  (∀ s : State, (s.readByte s.pc).toNat ∈ unmappedPrimary →
    step s = .fault (.unknownOpcode (s.readByte s.pc) false)) ∧
  (∀ s : State, s.readByte s.pc = 0xCB → 8 ≤ (s.readByte (s.pc + 1)).toNat →
    step s = .fault (.unknownOpcode (s.readByte (s.pc + 1)) true))

/-- R70: the length of every instruction by category. -/
def Obligations.LengthsByCategory : Prop :=
  ∀ i : Instr, i.length = lengthTable i.form ∧ (encode i).length = if isRotate i.form then 2 else 1

/-- R76: the 115 constructors are exactly the well-formed tagged values, each one once. -/
def Obligations.ConstructorsAreTheWellFormedForms : Prop :=
  (∀ f : Form, f.wellFormed = true ↔ ∃ i : Instr, i.form = f) ∧
  (∀ i j : Instr, i.form = j.form → i = j)

/-- Tier 3, both directions. Reading the bytes of an instruction, with its operand bytes at any values and anything
after them, gives back the instruction, the operand bytes and the rest; and whatever list of bytes reads as an
instruction is that instruction's bytes, so no bit of it is dropped. -/
def Obligations.DecodeAndEncodeAgree : Prop :=
  (∀ (i : Instr) (ops rest : List Byte), ops.length = i.operandLength →
    decodeBytes (encodeWith i ops ++ rest) = .instr i ops rest) ∧
  (∀ (bytes : List Byte) (i : Instr) (ops rest : List Byte), decodeBytes bytes = .instr i ops rest →
    encodeWith i ops ++ rest = bytes ∧ ops.length = i.operandLength)

/-- An instruction's bytes stored at pc, wrapping past 0xFFFF, are what the next step executes, in every state; and its
operand bytes are the immediates the execute rule reads (R71, R75). -/
def Obligations.StoredInstructionRuns : Prop :=
  ∀ (s : State) (i : Instr) (ops : List Byte), ops.length = i.operandLength →
    step (s.writeBytes s.pc (encodeWith i ops)) = exec i (s.writeBytes s.pc (encodeWith i ops)) ∧
    (∀ v, ops = [v] → (s.writeBytes s.pc (encodeWith i ops)).imm8 = v) ∧
    (∀ lo hi, ops = [lo, hi] →
      (s.writeBytes s.pc (encodeWith i ops)).imm16 = BitVec.ofNat 16 (hi.toNat * 256 + lo.toNat))

/-- The model's own `withFetchWord`: a word of the opcode table that the decoder reads as an instruction is what the
very next step executes, in every state, and only memory was changed. -/
def Obligations.FetchWordRuns : Prop :=
  ∀ (s : State) (nbits w : Nat) (i : Instr), decodeTableWord nbits w = some i →
    step (s.withFetchWord nbits w) = exec i (s.withFetchWord nbits w) ∧
    { s.withFetchWord nbits w with mem := s.mem } = s

/-! ## The step driver and its failures (40_step_driver.md, 60_exceptions.md) -/

/-- R101, R102, R103: fetch, at most one 0xCB consumed, decode, and then the failure, the unimplemented failure of the
rotates, or the execution of the decoded instruction, with nothing added around it. -/
def Obligations.StepRunsTheDecodedInstruction : Prop :=
  ∀ (s : State) (b : Byte) (prefixed : Bool),
    (if s.readByte s.pc = 0xCB then b = s.readByte (s.pc + 1) ∧ prefixed = true
      else b = s.readByte s.pc ∧ prefixed = false) →
    (decode b prefixed = none → step s = .fault (.unknownOpcode b prefixed)) ∧
    (∀ i, decode b prefixed = some i → step s = exec i s) ∧
    (∀ i, decode b prefixed = some i → isRotate i.form = true →
      step s = .fault (.unimplementedInstruction b prefixed i))

/-- R202: UnknownOpcode is the outcome of exactly the unmapped bytes, UnimplementedInstruction of exactly CB 00-07, and
every other decoded instruction executes. -/
def Obligations.FailuresAreExactlyTheUnmappedAndTheRotates : Prop :=
  (∀ (s : State) (b : Byte) (prefixed : Bool), step s = .fault (.unknownOpcode b prefixed) ↔
    (prefixed = false ∧ b = s.readByte s.pc ∧ b.toNat ∈ unmappedPrimary) ∨
    (prefixed = true ∧ s.readByte s.pc = 0xCB ∧ b = s.readByte (s.pc + 1) ∧ 8 ≤ b.toNat)) ∧
  (∀ (s : State) (b : Byte) (prefixed : Bool),
    (∃ i, step s = .fault (.unimplementedInstruction b prefixed i)) ↔
      prefixed = true ∧ s.readByte s.pc = 0xCB ∧ b = s.readByte (s.pc + 1) ∧ b.toNat < 8) ∧
  (∀ (i : Instr) (s : State), isRotate i.form = false → ∃ t, exec i s = .next t)

/-- R190, R191: the prefixed rotates decode and always end in UnimplementedInstruction, whatever the state. -/
def Obligations.RotatesAreUnimplemented : Prop :=
  ∀ (t : RotTarget) (s : State),
    decode (0b00000#5 ++ t.code) true = some (Instr.ofRlc t) ∧ (Instr.ofRlc t).length = 2 ∧
    exec (Instr.ofRlc t) s = .fault (.unimplementedInstruction (0b00000#5 ++ t.code) true (Instr.ofRlc t)) ∧
    (s.readByte s.pc = 0xCB → s.readByte (s.pc + 1) = (0b00000#5 ++ t.code : Byte) →
      s.request = (.unimplementedInstruction (0b00000#5 ++ t.code) true (Instr.ofRlc t), s))

/-- R201, R208: a step request whose report is not Ok leaves the whole state, and a second request reports the same. -/
def Obligations.FailureChangesNothing : Prop :=
  ∀ s : State, s.request.1 ≠ .ok → s.request.2 = s ∧ s.request.2.request = s.request

/-- R100, R200: every step ends in one of the three outcomes, with its code: 0 exactly when it is Ok, 1 and 2 exactly for
the two failures; the model never answers anything else. -/
def Obligations.OutcomeCodes : Prop :=
  ∀ s : State,
    (s.request.1.code = some 0 ↔ s.StepsOk) ∧
    (s.request.1.code = some 1 ↔ ∃ b prefixed, step s = .fault (.unknownOpcode b prefixed)) ∧
    (s.request.1.code = some 2 ↔ ∃ b prefixed i, step s = .fault (.unimplementedInstruction b prefixed i)) ∧
    s.request.1.code ≠ none

/-- After a failure the host may write a byte at pc and request again: the core executes the patched instruction. -/
def Obligations.HostPatchResumesAfterFailure : Prop :=
  ∀ (s : State) (v : Byte) (i : Instr), s.request.1 ≠ .ok → decode v false = some i →
    step (s.request.2.hostWrite s.pc v) = exec i (s.hostWrite s.pc v)

/-- R109: next_pc of every instruction that executes, and pc unchanged on any failure. -/
def Obligations.NextPcByCategory : Prop :=
  (∀ (i : Instr) (s : State), isRotate i.form = false →
    ∃ t, exec i s = .next t ∧ t.pc = nextPc s i.form) ∧
  (∀ s : State, s.request.1 ≠ .ok → s.request.2.pc = s.pc)

/-- R110: pc moves past an instruction that is no control transfer; a taken transfer goes to its target; an untaken
one moves past itself and changes nothing else. -/
def Obligations.SequentialExecution : Prop :=
  (∀ (i : Instr) (s : State), isRotate i.form = false → isTransfer i.form = false →
    ∃ t, exec i s = .next t ∧ t.pc = s.pc + BitVec.ofNat 16 i.length) ∧
  (∀ (cc : Test) (s : State), s.cond cc = false →
    exec (Instr.ofJp cc) s = .next { s with pc := s.pc + 3 } ∧
    exec (Instr.ofCall cc) s = .next { s with pc := s.pc + 3 } ∧
    exec (Instr.ofRet cc) s = .next { s with pc := s.pc + 1 }) ∧
  (∀ (cc : Test) (s : State), s.cond cc = true →
    (∃ t, exec (Instr.ofJp cc) s = .next t ∧ t.pc = wordAt s (s.pc + 1)) ∧
    (∃ t, exec (Instr.ofCall cc) s = .next t ∧ t.pc = wordAt t (s.pc + 1)) ∧
    (∃ t, exec (Instr.ofRet cc) s = .next t ∧ t.pc = wordAt s s.sp))

/-! ## Registers, flags and pairs (10_state.md) -/

/-- R8, R21: a register write changes that register to the value written and nothing else; none is hardwired. -/
def Obligations.RegisterWriteReadsBack : Prop :=
  ∀ (s : State) (r r' : Reg8) (v : Byte),
    (s.setReg r v).getReg r' = (if r' = r then v else s.getReg r') ∧
    (s.setReg r v).setReg r (s.getReg r) = s

/-- R25: F reads each flag at its bit, and every other bit as 0. -/
def Obligations.FlagsByteReadsTheFlags : Prop :=
  ∀ s : State, s.flagsByte.toNat = flagsValue s ∧ s.flagsByte.toNat % 16 = 0

/-- R26, R27: a byte written to F sets the flags from bits 7-4 and discards bits 3-0; reading F back gives the byte
with bits 3-0 cleared; writing back what F reads changes nothing. -/
def Obligations.FlagsByteRoundTrip : Prop :=
  ∀ (s : State) (v : Byte),
    s.setFlagsByte v = withFlags s v.toNat ∧
    (s.setFlagsByte v).flagsByte = v &&& 0xF0 ∧
    (v &&& 0x0F = 0 → (s.setFlagsByte v).flagsByte = v) ∧
    s.setFlagsByte s.flagsByte = s

/-- R28, R29: the pairs are views of their two registers, the first-named one high; AF's low byte is F. -/
def Obligations.PairsAreViews : Prop :=
  (∀ (s : State) (p : Pair16), (s.getPair p.toStack).toNat = pairValue s p) ∧
  (∀ s : State, (s.getPair .af).toNat = s.a.toNat * 256 + flagsValue s) ∧
  (∀ (s : State) (p : Pair16) (v : Word), s.setPair p.toStack v = withPair s p v.toNat) ∧
  (∀ (s : State) (v : Word), s.setPair .af v =
    { withFlags s (v.toNat % 256) with a := BitVec.ofNat 8 (v.toNat / 256) })

/-- R30: a pair written and read back gives the value written, for AF with bits 3-0 cleared. -/
def Obligations.PairRoundTrip : Prop :=
  ∀ (s : State) (v : Word),
    (∀ p : Pair16, (s.setPair p.toStack v).getPair p.toStack = v) ∧
    (s.setPair .af v).getPair .af = v &&& 0xFFF0 ∧
    ((s.setPair .af v).getPair .af = v ↔ v.toNat % 16 = 0)

/-- R33: the five Condition Tests. -/
def Obligations.ConditionTests : Prop :=
  ∀ s : State,
    (s.cond .nz = true ↔ s.flagZ = false) ∧ (s.cond .z = true ↔ s.flagZ = true) ∧
    (s.cond .nc = true ↔ s.flagC = false) ∧ (s.cond .c = true ↔ s.flagC = true) ∧
    s.cond .always = true

/-! ## What an instruction leaves unchanged (R39, R24, R32) -/

/-- Frame of the general registers: only those that R39's table names are written. -/
def Obligations.OnlyNamedRegistersChange : Prop :=
  ∀ (i : Instr) (s t : State), exec i s = .next t →
    ∀ r : Reg8, writesReg i.form r = false → t.getReg r = s.getReg r

/-- Frame of the flags: only ADD and POP AF write any. -/
def Obligations.OnlyAddAndPopAfWriteFlags : Prop :=
  ∀ (i : Instr) (s t : State), exec i s = .next t → writesFlags i.form = false →
    t.flagZ = s.flagZ ∧ t.flagN = s.flagN ∧ t.flagH = s.flagH ∧ t.flagC = s.flagC

/-- Frame and value of sp: PUSH, POP, a taken CALL and a taken RET move it by two, nothing else moves it. -/
def Obligations.OnlyStackInstructionsMoveSp : Prop :=
  ∀ (i : Instr) (s t : State), exec i s = .next t → t.sp = spAfter s i.form

/-- Frame of memory: every address outside the computed addresses stored to reads as before; for an instruction that
stores nothing, every address. -/
def Obligations.OnlyStoredBytesChange : Prop :=
  ∀ (i : Instr) (s t : State), exec i s = .next t →
    ∀ a : Word, a ∉ storedTo s i.form → t.readByte a = s.readByte a

/-! ## Memory (20_memory.md) -/

/-- R51, R52: a read gives the byte last written there, and a write affects no other address and nothing but memory. -/
def Obligations.WriteThenRead : Prop :=
  ∀ (s : State) (a b : Word) (v : Byte),
    (s.writeByte a v).readByte a = v ∧
    (b ≠ a → (s.writeByte a v).readByte b = s.readByte b) ∧
    { s.writeByte a v with mem := s.mem } = s

/-- R54: 16-bit reads, of data and of the a16 operand, are little-endian, the address of the high byte wrapping. -/
def Obligations.WordsAreLittleEndian : Prop :=
  (∀ (s : State) (a : Word), (s.readWord a).toNat = (s.readByte (a + 1)).toNat * 256 + (s.readByte a).toNat) ∧
  (∀ s : State, s.imm16 = s.readWord (s.pc + 1)) ∧ (∀ s : State, s.pop16.1 = s.readWord s.sp) ∧
  (∀ (s : State) (v : Word), (s.push16 v).readWord (s.push16 v).sp = v)

/-- R55 at the ends of the address space: an immediate and next_pc past 0xFFFF, a push below 0x0000, a pop past
0xFFFF. -/
def Obligations.AddressesWrap : Prop :=
  (∀ (r : Reg8) (s : State), s.pc = 0xFFFF →
    exec (Instr.ofLdRegD8 r) s = .next { s.setReg r (s.readByte 0x0000) with pc := 0x0001 }) ∧
  (∀ (cc : Test) (s : State), s.pc = 0xFFFE → s.cond cc = true →
    ∃ t, exec (Instr.ofJp cc) s = .next t ∧
      t.pc.toNat = (s.readByte 0x0000).toNat * 256 + (s.readByte 0xFFFF).toNat) ∧
  (∀ (s : State) (v : Word), s.sp = 0x0001 → (s.push16 v).sp = 0xFFFF ∧
    ((s.push16 v).readByte 0x0000).toNat = v.toNat / 256 ∧ ((s.push16 v).readByte 0xFFFF).toNat = v.toNat % 256) ∧
  (∀ s : State, s.sp = 0xFFFF → s.pop16.2.sp = 0x0001 ∧
    s.pop16.1.toNat = (s.readByte 0x0000).toNat * 256 + (s.readByte 0xFFFF).toNat)

/-- Two canonical memories that read alike at every address are equal data, so the list form hides nothing. -/
def Obligations.CanonicalMemoriesThatReadAlikeAreEqual : Prop :=
  ∀ m m' : Memory, m.wf → m'.wf → (∀ a : Word, m.read a.toNat = m'.read a.toNat) → m = m'

/-- R66: a byte stored over the next instruction, by LD (HL),r, is the one the next step fetches, and a CALL whose
push overwrites its own operand jumps to the bytes just pushed. -/
def Obligations.StoresAreSeenByLaterFetches : Prop :=
  (∀ (r : Reg8) (s : State), s.addrHL = s.pc + 1 → s.getReg r ≠ 0xCB →
    ∃ t, exec (Instr.ofLdAtHLReg r) s = .next t ∧ t.fetch = (s.getReg r, false)) ∧
  (∀ (cc : Test) (s : State), s.cond cc = true → s.sp = s.pc + 3 →
    ∃ t, exec (Instr.ofCall cc) s = .next t ∧ t.pc = s.pc + 3)

/-! ## Arithmetic (41_arithmetic.md, 42_incdec.md) -/

/-- R120: ADD A,r, its encoding, its result, all four flags, next_pc, and everything else unchanged. -/
def Obligations.AddRegisterToAccumulator : Prop :=
  (∀ (r : Reg8) (s : State),
    decode (0b10000#5 ++ r.code) false = some (Instr.ofAdd r) ∧ (Instr.ofAdd r).length = 1 ∧
    exec (Instr.ofAdd r) s = .next { s with
      a := BitVec.ofNat 8 (s.a.toNat + (s.getReg r).toNat)
      flagZ := decide ((s.a.toNat + (s.getReg r).toNat) % 256 = 0)
      flagN := false
      flagH := decide (0x0F < s.a.toNat % 16 + (s.getReg r).toNat % 16)
      flagC := decide (0xFF < s.a.toNat + (s.getReg r).toNat)
      pc := s.pc + 1 }) ∧
  decode 0x86 false = none

/-- The 8-bit addition law: the result and the carry together are the exact sum, and H is the carry out of bit 3. -/
def Obligations.AddKeepsTheExactSum : Prop :=
  ∀ (r : Reg8) (s : State), ∃ t, exec (Instr.ofAdd r) s = .next t ∧
    s.a.toNat + (s.getReg r).toNat = t.a.toNat + 256 * t.flagC.toNat ∧
    s.a.toNat % 16 + (s.getReg r).toNat % 16 = t.a.toNat % 16 + 16 * t.flagH.toNat ∧
    (t.flagZ = true ↔ t.a = 0) ∧ t.flagN = false

/-- R130: INC rr adds one to the pair modulo 65536, and changes no flag. -/
def Obligations.IncrementPair : Prop :=
  (∀ (p : Pair16) (s : State),
    decode (0b00#2 ++ p.code ++ 0b0011#4) false = some (Instr.ofInc p) ∧ (Instr.ofInc p).length = 1 ∧
    exec (Instr.ofInc p) s = .next { withPair s p ((pairValue s p + 1) % 65536) with pc := s.pc + 1 }) ∧
  decode 0x33 false = none

/-- R131: DEC rr subtracts one from the pair modulo 65536, and changes no flag. -/
def Obligations.DecrementPair : Prop :=
  (∀ (p : Pair16) (s : State),
    decode (0b00#2 ++ p.code ++ 0b1011#4) false = some (Instr.ofDec p) ∧ (Instr.ofDec p).length = 1 ∧
    exec (Instr.ofDec p) s = .next { withPair s p ((pairValue s p + 65535) % 65536) with pc := s.pc + 1 }) ∧
  decode 0x3B false = none

/-! ## Byte loads (43_load.md) -/

/-- R141: LD r,r'. -/
def Obligations.LoadRegisterFromRegister : Prop :=
  ∀ (rd rs : Reg8) (s : State),
    decode (0b01#2 ++ rd.code ++ rs.code) false = some (Instr.ofLdRegReg rd rs) ∧
    (Instr.ofLdRegReg rd rs).length = 1 ∧
    exec (Instr.ofLdRegReg rd rs) s = .next { s.setReg rd (s.getReg rs) with pc := s.pc + 1 }

/-- R142: LD r,(HL), the address from the old H and L. -/
def Obligations.LoadRegisterFromHL : Prop :=
  ∀ (rd : Reg8) (s : State),
    decode (0b01#2 ++ rd.code ++ 0b110#3) false = some (Instr.ofLdRegAtHL rd) ∧ (Instr.ofLdRegAtHL rd).length = 1 ∧
    exec (Instr.ofLdRegAtHL rd) s = .next { s.setReg rd (s.readByte (addressHL s)) with pc := s.pc + 1 }

/-- R143: LD (HL),r. -/
def Obligations.StoreRegisterAtHL : Prop :=
  ∀ (r : Reg8) (s : State),
    decode (0b01110#5 ++ r.code) false = some (Instr.ofLdAtHLReg r) ∧ (Instr.ofLdAtHLReg r).length = 1 ∧
    exec (Instr.ofLdAtHLReg r) s = .next { s.writeByte (addressHL s) (s.getReg r) with pc := s.pc + 1 }

/-- R144: LD r,d8. -/
def Obligations.LoadRegisterImmediate : Prop :=
  ∀ (rd : Reg8) (s : State),
    decode (0b00#2 ++ rd.code ++ 0b110#3) false = some (Instr.ofLdRegD8 rd) ∧ (Instr.ofLdRegD8 rd).length = 2 ∧
    exec (Instr.ofLdRegD8 rd) s = .next { s.setReg rd (s.readByte (s.pc + 1)) with pc := s.pc + 2 }

/-- R145: LD (HL),d8, the immediate read before the write. -/
def Obligations.StoreImmediateAtHL : Prop :=
  ∀ s : State,
    decode 0x36 false = some .ldAtHLD8 ∧ Instr.ldAtHLD8.length = 2 ∧
    exec .ldAtHLD8 s = .next { s.writeByte (addressHL s) (s.readByte (s.pc + 1)) with pc := s.pc + 2 }

/-! ## The stack (44_stack.md) -/

/-- R160: push16 stores the word little-endian at the new sp, two below the old one, and writes nothing else. -/
def Obligations.PushProcedure : Prop :=
  ∀ (s : State) (v : Word),
    (s.push16 v).sp = s.sp - 2 ∧
    ((s.push16 v).readByte (s.sp - 1)).toNat = v.toNat / 256 ∧
    ((s.push16 v).readByte (s.sp - 2)).toNat = v.toNat % 256 ∧
    (∀ a : Word, a ≠ s.sp - 1 → a ≠ s.sp - 2 → (s.push16 v).readByte a = s.readByte a) ∧
    { s.push16 v with sp := s.sp, mem := s.mem } = s

/-- R161: pop16 reads the low byte at sp and the high byte above it, moves sp up by two, and leaves memory unchanged. -/
def Obligations.PopProcedure : Prop :=
  ∀ s : State,
    s.pop16.1.toNat = (s.readByte (s.sp + 1)).toNat * 256 + (s.readByte s.sp).toNat ∧
    s.pop16.2 = { s with sp := s.sp + 2 }

/-- R162: PUSH qq; for AF the low byte is F, whose bits 3-0 are 0. -/
def Obligations.PushPair : Prop :=
  ∀ (q : StackPair) (s : State),
    decode (0b11#2 ++ q.code ++ 0b0101#4) false = some (Instr.ofPush q) ∧ (Instr.ofPush q).length = 1 ∧
    exec (Instr.ofPush q) s = .next { withPushed s (pushedHigh s q) (pushedLow s q) with pc := s.pc + 1 }

/-- R163: POP into BC, DE or HL. -/
def Obligations.PopPair : Prop :=
  ∀ (p : Pair16) (s : State),
    decode (0b11#2 ++ p.code ++ 0b0001#4) false = some (Instr.ofPop p.toStack) ∧
    (Instr.ofPop p.toStack).length = 1 ∧
    exec (Instr.ofPop p.toStack) s =
      .next { withPair s p (wordAt s s.sp).toNat with sp := s.sp + 2, pc := s.pc + 1 }

/-- R164: POP AF, all four flags from bits 7-4 of the popped low byte, bits 3-0 lost. -/
def Obligations.PopAccumulatorAndFlags : Prop :=
  ∀ s : State,
    decode 0xF1 false = some .popAF ∧ Instr.popAF.length = 1 ∧
    exec .popAF s = .next { withFlags s (s.readByte s.sp).toNat with
      a := s.readByte (s.sp + 1), sp := s.sp + 2, pc := s.pc + 1 }

/-- R165: push then pop gives the word back and leaves sp, for every word and every sp; PUSH then POP of one pair
restores that pair, AF with its flags too. -/
def Obligations.PushPopInverse : Prop :=
  (∀ (s : State) (v : Word), (s.push16 v).pop16.1 = v ∧ (s.push16 v).pop16.2.sp = s.sp) ∧
  (∀ (q : StackPair) (s : State), ∃ t u, exec (Instr.ofPush q) s = .next t ∧ exec (Instr.ofPop q) t = .next u ∧
    { u with pc := s.pc, mem := s.mem } = s)

/-! ## Control transfer (45_control.md) -/

/-- R170, R171: JP, the target little-endian after the opcode, taken as the test says; nothing but pc changes. -/
def Obligations.JumpRule : Prop :=
  ∀ (cc : Test) (s : State),
    decode (cc.opcode 0b010 0xC3) false = some (Instr.ofJp cc) ∧ (Instr.ofJp cc).length = 3 ∧
    exec (Instr.ofJp cc) s = .next { s with
      pc := if s.cond cc then BitVec.ofNat 16 ((s.readByte (s.pc + 2)).toNat * 256 + (s.readByte (s.pc + 1)).toNat)
        else s.pc + 3 }

/-- R172, R173: CALL, the return address pushed and then the target read from the memory the push left. -/
def Obligations.CallPushesThenReadsTarget : Prop :=
  ∀ (cc : Test) (s : State),
    decode (cc.opcode 0b100 0xCD) false = some (Instr.ofCall cc) ∧ (Instr.ofCall cc).length = 3 ∧
    exec (Instr.ofCall cc) s =
      if s.cond cc then
        let pushed := withPushed s (BitVec.ofNat 8 ((s.pc + 3).toNat / 256)) (BitVec.ofNat 8 ((s.pc + 3).toNat % 256))
        .next { pushed with
          pc := BitVec.ofNat 16 ((pushed.readByte (s.pc + 2)).toNat * 256 + (pushed.readByte (s.pc + 1)).toNat) }
      else .next { s with pc := s.pc + 3 }

/-- R174, R175: RET pops pc when the test holds. -/
def Obligations.ReturnPopsPc : Prop :=
  ∀ (cc : Test) (s : State),
    decode (cc.opcode 0b000 0xC9) false = some (Instr.ofRet cc) ∧ (Instr.ofRet cc).length = 1 ∧
    exec (Instr.ofRet cc) s =
      if s.cond cc then .next { s with pc := wordAt s s.sp, sp := s.sp + 2 }
      else .next { s with pc := s.pc + 1 }

/-- R176: a taken RET whose sp is the sp just after a taken CALL, and whose two stack bytes are as the CALL left them,
returns to the address after the CALL and restores sp, whatever happened in between. -/
def Obligations.CallReturnRoundTrip : Prop :=
  ∀ (cc cc' : Test) (s t u : State), s.cond cc = true → exec (Instr.ofCall cc) s = .next t →
    u.cond cc' = true → u.sp = t.sp → u.readByte u.sp = t.readByte t.sp →
    u.readByte (u.sp + 1) = t.readByte (t.sp + 1) →
    exec (Instr.ofRet cc') u = .next { u with pc := s.pc + 3, sp := s.sp }

/-! ## Creation and the host (70_reset_and_hazards.md, 60_exceptions.md) -/

/-- R230: creation sets every register and flag to RESET_STATE and memory to MEM_INIT, for every value of both. -/
def Obligations.CreationSetsResetStateAndImage : Prop :=
  ∀ (r : ResetState) (image : Memory),
    let s := State.create r image
    (s.pc = r.pc ∧ s.sp = r.sp) ∧
    (s.a = r.a ∧ s.b = r.b ∧ s.c = r.c ∧ s.d = r.d ∧ s.e = r.e ∧ s.h = r.h ∧ s.l = r.l) ∧
    (s.flagZ = r.flagZ ∧ s.flagN = r.flagN ∧ s.flagH = r.flagH ∧ s.flagC = r.flagC) ∧
    (∀ a : Word, s.readByte a = image.read a.toNat)

/-- R61: after an image is loaded into a created state whose memory has nothing listed, an address reads the last byte
loaded there, and 0x00 where none was. -/
def Obligations.LoadedImageReadsBack : Prop :=
  ∀ (r : ResetState) (image : List (Word × Byte)) (a : Word),
    ((State.create r []).loadImage image).readByte a =
      ((image.reverse.find? fun x => x.1 = a).map Prod.snd).getD 0x00

/-- R231: the first instruction executed is the one at RESET_STATE.pc. -/
def Obligations.FirstInstructionAtResetPc : Prop :=
  ∀ (r : ResetState) (image : Memory) (i : Instr),
    decode (image.read r.pc.toNat) false = some i → step (State.create r image) = exec i (State.create r image)

/-- The model's own `State.reset` (DESIGN CHOICE, log entries 1 and 2: the spec gives no register value): every register
and flag is zero, and memory reads 0x00 everywhere. -/
def Obligations.ModelResetIsZero : Prop :=
  State.reset.pc = 0 ∧ State.reset.sp = 0 ∧ (∀ r : Reg8, State.reset.getReg r = 0) ∧
  flagsValue State.reset = 0 ∧ ∀ a : Word, State.reset.readByte a = 0x00

/-- The ports of R215: a host write at pc reads back, every other byte and everything but memory stays, and the step
that follows sees it. -/
def Obligations.HostWriteIsSeenByTheNextStep : Prop :=
  ∀ (s : State) (v : Byte) (i : Instr), decode v false = some i →
    (s.hostWrite s.pc v).hostRead s.pc = v ∧
    (∀ a : Word, a ≠ s.pc → (s.hostWrite s.pc v).readByte a = s.readByte a) ∧
    { s.hostWrite s.pc v with mem := s.mem } = s ∧
    step (s.hostWrite s.pc v) = exec i (s.hostWrite s.pc v)

/-! ## The invariant -/

/-- The reset state has the invariant, and so has every state created with a canonical image. -/
def Obligations.CreatedStatesHaveTheInvariant : Prop :=
  State.reset.Inv ∧ ∀ (r : ResetState) (image : Memory), image.wf → (State.create r image).Inv

/-- Tier 3: every step keeps memory in its canonical form, from every state that has it, reachable or not. -/
def Obligations.StepKeepsTheInvariant : Prop :=
  ∀ s t : State, s.Inv → step s = .next t → t.Inv

/-- The host's writes keep the invariant: one byte, a whole image, and a table word stored for the next fetch. -/
def Obligations.HostWritesKeepTheInvariant : Prop :=
  ∀ s : State, s.Inv →
    (∀ (a : Word) (v : Byte), (s.hostWrite a v).Inv) ∧
    (∀ image : List (Word × Byte), (s.loadImage image).Inv) ∧
    (∀ nbits w : Nat, (s.withFetchWord nbits w).Inv)
end

