-- ==== Sys2Proof/Laws/State.lean ====
section
/-! SUPPORT. One lemma per field per update, so that no later proof unfolds a record update. -/

namespace Sys2Proof.Machine

variable (s : State)

/-! ## `setPc` -/

@[simp] theorem State.setPc_pc (v : Word) : (s.setPc v).pc = v := rfl
@[simp] theorem State.setPc_sp (v : Word) : (s.setPc v).sp = s.sp := rfl
@[simp] theorem State.setPc_a (v : Word) : (s.setPc v).a = s.a := rfl
@[simp] theorem State.setPc_b (v : Word) : (s.setPc v).b = s.b := rfl
@[simp] theorem State.setPc_c (v : Word) : (s.setPc v).c = s.c := rfl
@[simp] theorem State.setPc_d (v : Word) : (s.setPc v).d = s.d := rfl
@[simp] theorem State.setPc_e (v : Word) : (s.setPc v).e = s.e := rfl
@[simp] theorem State.setPc_h (v : Word) : (s.setPc v).h = s.h := rfl
@[simp] theorem State.setPc_l (v : Word) : (s.setPc v).l = s.l := rfl
@[simp] theorem State.setPc_flagZ (v : Word) : (s.setPc v).flagZ = s.flagZ := rfl
@[simp] theorem State.setPc_flagN (v : Word) : (s.setPc v).flagN = s.flagN := rfl
@[simp] theorem State.setPc_flagH (v : Word) : (s.setPc v).flagH = s.flagH := rfl
@[simp] theorem State.setPc_flagC (v : Word) : (s.setPc v).flagC = s.flagC := rfl
@[simp] theorem State.setPc_mem (v : Word) : (s.setPc v).mem = s.mem := rfl

/-! ## `setSp` -/

@[simp] theorem State.setSp_pc (v : Word) : (s.setSp v).pc = s.pc := rfl
@[simp] theorem State.setSp_sp (v : Word) : (s.setSp v).sp = v := rfl
@[simp] theorem State.setSp_a (v : Word) : (s.setSp v).a = s.a := rfl
@[simp] theorem State.setSp_b (v : Word) : (s.setSp v).b = s.b := rfl
@[simp] theorem State.setSp_c (v : Word) : (s.setSp v).c = s.c := rfl
@[simp] theorem State.setSp_d (v : Word) : (s.setSp v).d = s.d := rfl
@[simp] theorem State.setSp_e (v : Word) : (s.setSp v).e = s.e := rfl
@[simp] theorem State.setSp_h (v : Word) : (s.setSp v).h = s.h := rfl
@[simp] theorem State.setSp_l (v : Word) : (s.setSp v).l = s.l := rfl
@[simp] theorem State.setSp_flagZ (v : Word) : (s.setSp v).flagZ = s.flagZ := rfl
@[simp] theorem State.setSp_flagN (v : Word) : (s.setSp v).flagN = s.flagN := rfl
@[simp] theorem State.setSp_flagH (v : Word) : (s.setSp v).flagH = s.flagH := rfl
@[simp] theorem State.setSp_flagC (v : Word) : (s.setSp v).flagC = s.flagC := rfl
@[simp] theorem State.setSp_mem (v : Word) : (s.setSp v).mem = s.mem := rfl

/-! ## `setFlags` -/

@[simp] theorem State.setFlags_pc (z n h c : Bool) : (s.setFlags z n h c).pc = s.pc := rfl
@[simp] theorem State.setFlags_sp (z n h c : Bool) : (s.setFlags z n h c).sp = s.sp := rfl
@[simp] theorem State.setFlags_a (z n h c : Bool) : (s.setFlags z n h c).a = s.a := rfl
@[simp] theorem State.setFlags_b (z n h c : Bool) : (s.setFlags z n h c).b = s.b := rfl
@[simp] theorem State.setFlags_c (z n h c : Bool) : (s.setFlags z n h c).c = s.c := rfl
@[simp] theorem State.setFlags_d (z n h c : Bool) : (s.setFlags z n h c).d = s.d := rfl
@[simp] theorem State.setFlags_e (z n h c : Bool) : (s.setFlags z n h c).e = s.e := rfl
@[simp] theorem State.setFlags_h (z n h c : Bool) : (s.setFlags z n h c).h = s.h := rfl
@[simp] theorem State.setFlags_l (z n h c : Bool) : (s.setFlags z n h c).l = s.l := rfl
@[simp] theorem State.setFlags_flagZ (z n h c : Bool) : (s.setFlags z n h c).flagZ = z := rfl
@[simp] theorem State.setFlags_flagN (z n h c : Bool) : (s.setFlags z n h c).flagN = n := rfl
@[simp] theorem State.setFlags_flagH (z n h c : Bool) : (s.setFlags z n h c).flagH = h := rfl
@[simp] theorem State.setFlags_flagC (z n h c : Bool) : (s.setFlags z n h c).flagC = c := rfl
@[simp] theorem State.setFlags_mem (z n h c : Bool) : (s.setFlags z n h c).mem = s.mem := rfl

/-! ## `writeByte` -/

@[simp] theorem State.writeByte_pc (x : Word) (v : Byte) : (s.writeByte x v).pc = s.pc := rfl
@[simp] theorem State.writeByte_sp (x : Word) (v : Byte) : (s.writeByte x v).sp = s.sp := rfl
@[simp] theorem State.writeByte_a (x : Word) (v : Byte) : (s.writeByte x v).a = s.a := rfl
@[simp] theorem State.writeByte_b (x : Word) (v : Byte) : (s.writeByte x v).b = s.b := rfl
@[simp] theorem State.writeByte_c (x : Word) (v : Byte) : (s.writeByte x v).c = s.c := rfl
@[simp] theorem State.writeByte_d (x : Word) (v : Byte) : (s.writeByte x v).d = s.d := rfl
@[simp] theorem State.writeByte_e (x : Word) (v : Byte) : (s.writeByte x v).e = s.e := rfl
@[simp] theorem State.writeByte_h (x : Word) (v : Byte) : (s.writeByte x v).h = s.h := rfl
@[simp] theorem State.writeByte_l (x : Word) (v : Byte) : (s.writeByte x v).l = s.l := rfl
@[simp] theorem State.writeByte_flagZ (x : Word) (v : Byte) : (s.writeByte x v).flagZ = s.flagZ := rfl
@[simp] theorem State.writeByte_flagN (x : Word) (v : Byte) : (s.writeByte x v).flagN = s.flagN := rfl
@[simp] theorem State.writeByte_flagH (x : Word) (v : Byte) : (s.writeByte x v).flagH = s.flagH := rfl
@[simp] theorem State.writeByte_flagC (x : Word) (v : Byte) : (s.writeByte x v).flagC = s.flagC := rfl
@[simp] theorem State.writeByte_mem (x : Word) (v : Byte) : (s.writeByte x v).mem = s.mem.write x.toNat v := rfl

/-! ## `setReg` -/

@[simp] theorem State.setReg_pc (r : Reg8) (v : Byte) : (s.setReg r v).pc = s.pc := by cases r <;> rfl
@[simp] theorem State.setReg_sp (r : Reg8) (v : Byte) : (s.setReg r v).sp = s.sp := by cases r <;> rfl
@[simp] theorem State.setReg_a (r : Reg8) (v : Byte) : (s.setReg r v).a = if r = .a then v else s.a := by cases r <;> rfl
@[simp] theorem State.setReg_b (r : Reg8) (v : Byte) : (s.setReg r v).b = if r = .b then v else s.b := by cases r <;> rfl
@[simp] theorem State.setReg_c (r : Reg8) (v : Byte) : (s.setReg r v).c = if r = .c then v else s.c := by cases r <;> rfl
@[simp] theorem State.setReg_d (r : Reg8) (v : Byte) : (s.setReg r v).d = if r = .d then v else s.d := by cases r <;> rfl
@[simp] theorem State.setReg_e (r : Reg8) (v : Byte) : (s.setReg r v).e = if r = .e then v else s.e := by cases r <;> rfl
@[simp] theorem State.setReg_h (r : Reg8) (v : Byte) : (s.setReg r v).h = if r = .h then v else s.h := by cases r <;> rfl
@[simp] theorem State.setReg_l (r : Reg8) (v : Byte) : (s.setReg r v).l = if r = .l then v else s.l := by cases r <;> rfl
@[simp] theorem State.setReg_flagZ (r : Reg8) (v : Byte) : (s.setReg r v).flagZ = s.flagZ := by cases r <;> rfl
@[simp] theorem State.setReg_flagN (r : Reg8) (v : Byte) : (s.setReg r v).flagN = s.flagN := by cases r <;> rfl
@[simp] theorem State.setReg_flagH (r : Reg8) (v : Byte) : (s.setReg r v).flagH = s.flagH := by cases r <;> rfl
@[simp] theorem State.setReg_flagC (r : Reg8) (v : Byte) : (s.setReg r v).flagC = s.flagC := by cases r <;> rfl
@[simp] theorem State.setReg_mem (r : Reg8) (v : Byte) : (s.setReg r v).mem = s.mem := by cases r <;> rfl

/-! ## Registers by name -/

@[simp] theorem State.getReg_setReg (r r' : Reg8) (v : Byte) :
    (s.setReg r v).getReg r' = if r' = r then v else s.getReg r' := by
  cases r <;> cases r' <;> rfl

@[simp] theorem State.getReg_setPc (r : Reg8) (v : Word) : (s.setPc v).getReg r = s.getReg r := by cases r <;> rfl
@[simp] theorem State.getReg_setSp (r : Reg8) (v : Word) : (s.setSp v).getReg r = s.getReg r := by cases r <;> rfl
@[simp] theorem State.getReg_setFlags (r : Reg8) (z n h c : Bool) :
    (s.setFlags z n h c).getReg r = s.getReg r := by cases r <;> rfl
@[simp] theorem State.getReg_writeByte (r : Reg8) (x : Word) (v : Byte) :
    (s.writeByte x v).getReg r = s.getReg r := by cases r <;> rfl

/-! ## Reads of memory see only memory -/

@[simp] theorem State.readByte_setPc (a v : Word) : (s.setPc v).readByte a = s.readByte a := rfl
@[simp] theorem State.readByte_setSp (a v : Word) : (s.setSp v).readByte a = s.readByte a := rfl
@[simp] theorem State.readByte_setFlags (a : Word) (z n h c : Bool) :
    (s.setFlags z n h c).readByte a = s.readByte a := rfl
@[simp] theorem State.readByte_setReg (a : Word) (r : Reg8) (v : Byte) :
    (s.setReg r v).readByte a = s.readByte a := by simp [State.readByte]

/-! ## `setFlagsByte` and `setPair`, as updates of fields (10_state.md rules R26, R29) -/

@[simp] theorem State.setFlagsByte_pc (v : Byte) : (s.setFlagsByte v).pc = s.pc := rfl
@[simp] theorem State.setFlagsByte_sp (v : Byte) : (s.setFlagsByte v).sp = s.sp := rfl
@[simp] theorem State.setFlagsByte_a (v : Byte) : (s.setFlagsByte v).a = s.a := rfl
@[simp] theorem State.setFlagsByte_b (v : Byte) : (s.setFlagsByte v).b = s.b := rfl
@[simp] theorem State.setFlagsByte_c (v : Byte) : (s.setFlagsByte v).c = s.c := rfl
@[simp] theorem State.setFlagsByte_d (v : Byte) : (s.setFlagsByte v).d = s.d := rfl
@[simp] theorem State.setFlagsByte_e (v : Byte) : (s.setFlagsByte v).e = s.e := rfl
@[simp] theorem State.setFlagsByte_h (v : Byte) : (s.setFlagsByte v).h = s.h := rfl
@[simp] theorem State.setFlagsByte_l (v : Byte) : (s.setFlagsByte v).l = s.l := rfl
@[simp] theorem State.setFlagsByte_mem (v : Byte) : (s.setFlagsByte v).mem = s.mem := rfl

@[simp] theorem State.setPair_pc (p : StackPair) (v : Word) : (s.setPair p v).pc = s.pc := by cases p <;> rfl
@[simp] theorem State.setPair_sp (p : StackPair) (v : Word) : (s.setPair p v).sp = s.sp := by cases p <;> rfl
@[simp] theorem State.setPair_mem (p : StackPair) (v : Word) : (s.setPair p v).mem = s.mem := by cases p <;> rfl
@[simp] theorem State.readByte_setPair (a : Word) (p : StackPair) (v : Word) :
    (s.setPair p v).readByte a = s.readByte a := by simp [State.readByte]

end Sys2Proof.Machine
end

