-- ==== Sys2Proof/Laws/Memory.lean ====
section
/-! SUPPORT. Memory as a list of cells: what a read gives after each operation, that every operation keeps the
canonical form, and that a canonical memory is determined by its reads. -/

namespace Sys2Proof.Machine

/-! ## Reads -/

@[simp] theorem Memory.read_nil (k : Nat) : Memory.read [] k = Config.unlistedByte := rfl

@[simp] theorem Memory.read_cons (c : Host.Cell) (m : Memory) (k : Nat) :
    Memory.read (c :: m) k = if c.1 = k then c.2 else Memory.read m k := rfl

theorem Memory.read_erase (m : Memory) (k j : Nat) :
    (m.erase k).read j = if j = k then Config.unlistedByte else m.read j := by
  induction m with
  | nil => simp [Memory.erase]
  | cons c rest ih =>
    rw [Memory.erase] at ih
    rw [Memory.erase, List.filter_cons]
    by_cases hj : j = k
    · subst hj
      by_cases hc : c.1 = j <;> simp_all
    · have hkj : k ≠ j := fun h => hj h.symm
      by_cases hc : c.1 = k
      · simp [hc, ih, hj, hkj]
      · by_cases h : c.1 = j <;> simp [hc, ih, hj, h]

theorem Memory.read_insert (m : Memory) (k j : Nat) (v : Byte) (hk : ∀ c ∈ m, c.1 ≠ k) :
    (m.insert k v).read j = if j = k then v else m.read j := by
  induction m with
  | nil =>
    by_cases h : j = k
    · simp [Memory.insert, h]
    · have : k ≠ j := fun e => h e.symm
      simp [Memory.insert, h, this]
  | cons c rest ih =>
    have hrest := ih (fun x hx => hk x (List.mem_cons_of_mem _ hx))
    have hc := hk c List.mem_cons_self
    unfold Memory.insert
    by_cases hlt : k < c.1
    · by_cases h : j = k
      · simp [hlt, h]
      · have : k ≠ j := fun e => h e.symm
        simp [hlt, h, this]
    · by_cases h : j = k
      · subst h
        simp [hlt, hc, hrest]
      · simp [hlt, h, hrest]

theorem Memory.not_mem_erase (m : Memory) (k : Nat) : ∀ c ∈ m.erase k, c.1 ≠ k := by
  intro c hc
  simpa using (List.mem_filter.mp hc).2

/-- Read after write, for every list of cells (20_memory.md rule R52). -/
@[simp] theorem Memory.read_write (m : Memory) (k j : Nat) (v : Byte) :
    (m.write k v).read j = if j = k then v else m.read j := by
  unfold Memory.write
  split
  · next h => rw [Memory.read_erase, h]
  · rw [Memory.read_insert _ _ _ _ (Memory.not_mem_erase m k), Memory.read_erase]
    split <;> rfl

/-! ## The canonical form is kept -/

theorem Memory.wf_nil : Memory.wf [] := ⟨List.Pairwise.nil, by simp⟩

theorem Memory.wf_tail {c : Host.Cell} {m : Memory} (h : Memory.wf (c :: m)) : Memory.wf m :=
  ⟨(List.pairwise_cons.mp h.1).2, fun x hx => h.2 x (List.mem_cons_of_mem _ hx)⟩

theorem Memory.wf_erase {m : Memory} (h : m.wf) (k : Nat) : (m.erase k).wf :=
  ⟨h.1.filter _, fun c hc => h.2 c (List.mem_filter.mp hc).1⟩

theorem Memory.mem_insert {m : Memory} {k : Nat} {v : Byte} {c : Host.Cell} (h : c ∈ m.insert k v) :
    c = (k, v) ∨ c ∈ m := by
  induction m with
  | nil => exact .inl (by simpa [Memory.insert] using h)
  | cons d rest ih =>
    unfold Memory.insert at h
    split at h
    · simpa using h
    · rcases List.mem_cons.mp h with rfl | h
      · exact .inr List.mem_cons_self
      · rcases ih h with h | h
        · exact .inl h
        · exact .inr (List.mem_cons_of_mem _ h)

theorem Memory.wf_insert {m : Memory} (h : m.wf) {k : Nat} {v : Byte} (hk : ∀ c ∈ m, c.1 ≠ k)
    (hr : k < 65536) (hv : v ≠ Config.unlistedByte) : (m.insert k v).wf := by
  refine ⟨?_, ?_⟩
  · induction m with
    | nil => simp [Memory.insert]
    | cons d rest ih =>
      have hd := List.pairwise_cons.mp h.1
      unfold Memory.insert
      split
      · next hlt =>
        refine List.pairwise_cons.mpr ⟨fun x hx => ?_, h.1⟩
        rcases List.mem_cons.mp hx with rfl | hx
        · exact hlt
        · exact Nat.lt_trans hlt (hd.1 x hx)
      · next hlt =>
        have hne : d.1 ≠ k := hk d List.mem_cons_self
        refine List.pairwise_cons.mpr ⟨fun x hx => ?_, ih (Memory.wf_tail h) fun c hc => hk c (List.mem_cons_of_mem _ hc)⟩
        rcases Memory.mem_insert hx with rfl | hx
        · show d.1 < k
          omega
        · exact hd.1 x hx
  · intro c hc
    rcases Memory.mem_insert hc with rfl | hc
    · exact ⟨hr, hv⟩
    · exact h.2 c hc

theorem Memory.wf_write {m : Memory} (h : m.wf) {k : Nat} (hr : k < 65536) (v : Byte) : (m.write k v).wf := by
  unfold Memory.write
  split
  · exact Memory.wf_erase h k
  · next hv => exact Memory.wf_insert (Memory.wf_erase h k) (Memory.not_mem_erase m k) hr hv

/-! ## A canonical memory is determined by what it reads as -/

theorem Memory.read_eq_unlisted {m : Memory} {k : Nat} (h : ∀ c ∈ m, c.1 ≠ k) : m.read k = Config.unlistedByte := by
  induction m with
  | nil => rfl
  | cons c rest ih =>
    rw [Memory.read_cons, if_neg (h c List.mem_cons_self), ih fun x hx => h x (List.mem_cons_of_mem _ hx)]

/-- In a canonical memory, a cell at the head is the only one at its address or below. -/
theorem Memory.read_below_head {c : Host.Cell} {m : Memory} (h : Memory.wf (c :: m)) {k : Nat} (hk : k < c.1) :
    Memory.read (c :: m) k = Config.unlistedByte := by
  refine Memory.read_eq_unlisted fun x hx => ?_
  rcases List.mem_cons.mp hx with rfl | hx
  · omega
  · have := (List.pairwise_cons.mp h.1).1 x hx
    omega

theorem Memory.read_tail_head {c : Host.Cell} {m : Memory} (h : Memory.wf (c :: m)) :
    Memory.read m c.1 = Config.unlistedByte :=
  Memory.read_eq_unlisted fun x hx => by have := (List.pairwise_cons.mp h.1).1 x hx; omega

/-! ## The bus -/

@[simp] theorem State.readByte_writeByte (s : State) (a b : Word) (v : Byte) :
    (s.writeByte a v).readByte b = if b = a then v else s.readByte b := by
  simp [State.readByte, BitVec.toNat_inj]

theorem State.wf_writeByte {s : State} (h : s.mem.wf) (a : Word) (v : Byte) : (s.writeByte a v).mem.wf :=
  Memory.wf_write h a.isLt v

theorem State.wf_writeBytes {s : State} (h : s.mem.wf) (a : Word) (bs : List Byte) :
    (s.writeBytes a bs).mem.wf := by
  induction bs generalizing s a with
  | nil => exact h
  | cons v rest ih => exact ih (State.wf_writeByte h a v) (a + 1)

theorem State.writeBytes_pc (s : State) (a : Word) (bs : List Byte) : (s.writeBytes a bs).pc = s.pc := by
  induction bs generalizing s a with
  | nil => rfl
  | cons v rest ih => exact ih (s.writeByte a v) (a + 1)

end Sys2Proof.Machine
end

