-- ==== Sys2Proof/Laws/PerInstr.lean ====
section
/-! SUPPORT. The family `Encoding` of statements made per instruction: what the encoding of each constructor is. -/

namespace Sys2Proof.Laws.Encoding

/-- The instruction is well-formed, its opcode byte decodes to it in its own table (30_encoding.md rule R77), an
unprefixed opcode is never the sentinel (R81), and it is one to three bytes long (R70). -/
def Statement (i : Instr) : Prop :=
  i.wellFormed = true ∧ decode i.opcode i.isPrefixed = some i ∧
    (i.isPrefixed = false → i.opcode ≠ Config.prefixSentinel) ∧ 1 ≤ i.length ∧ i.length ≤ 3

theorem incBC : Statement .incBC := by unfold Statement; decide
theorem ldBD8 : Statement .ldBD8 := by unfold Statement; decide
theorem decBC : Statement .decBC := by unfold Statement; decide
theorem ldCD8 : Statement .ldCD8 := by unfold Statement; decide
theorem incDE : Statement .incDE := by unfold Statement; decide
theorem ldDD8 : Statement .ldDD8 := by unfold Statement; decide
theorem decDE : Statement .decDE := by unfold Statement; decide
theorem ldED8 : Statement .ldED8 := by unfold Statement; decide
theorem incHL : Statement .incHL := by unfold Statement; decide
theorem ldHD8 : Statement .ldHD8 := by unfold Statement; decide
theorem decHL : Statement .decHL := by unfold Statement; decide
theorem ldLD8 : Statement .ldLD8 := by unfold Statement; decide
theorem ldAtHLD8 : Statement .ldAtHLD8 := by unfold Statement; decide
theorem ldAD8 : Statement .ldAD8 := by unfold Statement; decide
theorem ldBB : Statement .ldBB := by unfold Statement; decide
theorem ldBC : Statement .ldBC := by unfold Statement; decide
theorem ldBD : Statement .ldBD := by unfold Statement; decide
theorem ldBE : Statement .ldBE := by unfold Statement; decide
theorem ldBH : Statement .ldBH := by unfold Statement; decide
theorem ldBL : Statement .ldBL := by unfold Statement; decide
theorem ldBAtHL : Statement .ldBAtHL := by unfold Statement; decide
theorem ldBA : Statement .ldBA := by unfold Statement; decide
theorem ldCB : Statement .ldCB := by unfold Statement; decide
theorem ldCC : Statement .ldCC := by unfold Statement; decide
theorem ldCD : Statement .ldCD := by unfold Statement; decide
theorem ldCE : Statement .ldCE := by unfold Statement; decide
theorem ldCH : Statement .ldCH := by unfold Statement; decide
theorem ldCL : Statement .ldCL := by unfold Statement; decide
theorem ldCAtHL : Statement .ldCAtHL := by unfold Statement; decide
theorem ldCA : Statement .ldCA := by unfold Statement; decide
theorem ldDB : Statement .ldDB := by unfold Statement; decide
theorem ldDC : Statement .ldDC := by unfold Statement; decide
theorem ldDD : Statement .ldDD := by unfold Statement; decide
theorem ldDE : Statement .ldDE := by unfold Statement; decide
theorem ldDH : Statement .ldDH := by unfold Statement; decide
theorem ldDL : Statement .ldDL := by unfold Statement; decide
theorem ldDAtHL : Statement .ldDAtHL := by unfold Statement; decide
theorem ldDA : Statement .ldDA := by unfold Statement; decide
theorem ldEB : Statement .ldEB := by unfold Statement; decide
theorem ldEC : Statement .ldEC := by unfold Statement; decide
theorem ldED : Statement .ldED := by unfold Statement; decide
theorem ldEE : Statement .ldEE := by unfold Statement; decide
theorem ldEH : Statement .ldEH := by unfold Statement; decide
theorem ldEL : Statement .ldEL := by unfold Statement; decide
theorem ldEAtHL : Statement .ldEAtHL := by unfold Statement; decide
theorem ldEA : Statement .ldEA := by unfold Statement; decide
theorem ldHB : Statement .ldHB := by unfold Statement; decide
theorem ldHC : Statement .ldHC := by unfold Statement; decide
theorem ldHD : Statement .ldHD := by unfold Statement; decide
theorem ldHE : Statement .ldHE := by unfold Statement; decide
theorem ldHH : Statement .ldHH := by unfold Statement; decide
theorem ldHL : Statement .ldHL := by unfold Statement; decide
theorem ldHAtHL : Statement .ldHAtHL := by unfold Statement; decide
theorem ldHA : Statement .ldHA := by unfold Statement; decide
theorem ldLB : Statement .ldLB := by unfold Statement; decide
theorem ldLC : Statement .ldLC := by unfold Statement; decide
theorem ldLD : Statement .ldLD := by unfold Statement; decide
theorem ldLE : Statement .ldLE := by unfold Statement; decide
theorem ldLH : Statement .ldLH := by unfold Statement; decide
theorem ldLL : Statement .ldLL := by unfold Statement; decide
theorem ldLAtHL : Statement .ldLAtHL := by unfold Statement; decide
theorem ldLA : Statement .ldLA := by unfold Statement; decide
theorem ldAtHLB : Statement .ldAtHLB := by unfold Statement; decide
theorem ldAtHLC : Statement .ldAtHLC := by unfold Statement; decide
theorem ldAtHLD : Statement .ldAtHLD := by unfold Statement; decide
theorem ldAtHLE : Statement .ldAtHLE := by unfold Statement; decide
theorem ldAtHLH : Statement .ldAtHLH := by unfold Statement; decide
theorem ldAtHLL : Statement .ldAtHLL := by unfold Statement; decide
theorem ldAtHLA : Statement .ldAtHLA := by unfold Statement; decide
theorem ldAB : Statement .ldAB := by unfold Statement; decide
theorem ldAC : Statement .ldAC := by unfold Statement; decide
theorem ldAD : Statement .ldAD := by unfold Statement; decide
theorem ldAE : Statement .ldAE := by unfold Statement; decide
theorem ldAH : Statement .ldAH := by unfold Statement; decide
theorem ldAL : Statement .ldAL := by unfold Statement; decide
theorem ldAAtHL : Statement .ldAAtHL := by unfold Statement; decide
theorem ldAA : Statement .ldAA := by unfold Statement; decide
theorem addAB : Statement .addAB := by unfold Statement; decide
theorem addAC : Statement .addAC := by unfold Statement; decide
theorem addAD : Statement .addAD := by unfold Statement; decide
theorem addAE : Statement .addAE := by unfold Statement; decide
theorem addAH : Statement .addAH := by unfold Statement; decide
theorem addAL : Statement .addAL := by unfold Statement; decide
theorem addAA : Statement .addAA := by unfold Statement; decide
theorem retNZ : Statement .retNZ := by unfold Statement; decide
theorem popBC : Statement .popBC := by unfold Statement; decide
theorem jpNZ : Statement .jpNZ := by unfold Statement; decide
theorem jp : Statement .jp := by unfold Statement; decide
theorem callNZ : Statement .callNZ := by unfold Statement; decide
theorem pushBC : Statement .pushBC := by unfold Statement; decide
theorem retZ : Statement .retZ := by unfold Statement; decide
theorem ret : Statement .ret := by unfold Statement; decide
theorem jpZ : Statement .jpZ := by unfold Statement; decide
theorem callZ : Statement .callZ := by unfold Statement; decide
theorem call : Statement .call := by unfold Statement; decide
theorem retNC : Statement .retNC := by unfold Statement; decide
theorem popDE : Statement .popDE := by unfold Statement; decide
theorem jpNC : Statement .jpNC := by unfold Statement; decide
theorem callNC : Statement .callNC := by unfold Statement; decide
theorem pushDE : Statement .pushDE := by unfold Statement; decide
theorem retC : Statement .retC := by unfold Statement; decide
theorem jpC : Statement .jpC := by unfold Statement; decide
theorem callC : Statement .callC := by unfold Statement; decide
theorem popHL : Statement .popHL := by unfold Statement; decide
theorem pushHL : Statement .pushHL := by unfold Statement; decide
theorem popAF : Statement .popAF := by unfold Statement; decide
theorem pushAF : Statement .pushAF := by unfold Statement; decide
theorem rlcB : Statement .rlcB := by unfold Statement; decide
theorem rlcC : Statement .rlcC := by unfold Statement; decide
theorem rlcD : Statement .rlcD := by unfold Statement; decide
theorem rlcE : Statement .rlcE := by unfold Statement; decide
theorem rlcH : Statement .rlcH := by unfold Statement; decide
theorem rlcL : Statement .rlcL := by unfold Statement; decide
theorem rlcAtHL : Statement .rlcAtHL := by unfold Statement; decide
theorem rlcA : Statement .rlcA := by unfold Statement; decide

end Sys2Proof.Laws.Encoding
end

