-- ==== Sys2Proof/Laws/Decode.lean ====
section
/-! SUPPORT. The decoder tables and the encoder agree byte by byte. -/

namespace Sys2Proof

/-- The byte that the bit fields of rule R71 give an instruction holds that instruction in its table (R77). -/
theorem decode_opcode (i : Instr) : decode i.opcode i.isPrefixed = some i := by
  cases i <;> rfl

/-- A byte that decodes is the opcode byte of what it decodes to: each instruction has one entry (R78, R79). -/
theorem decode_some {b : Byte} {p : Bool} {i : Instr} (h : decode b p = some i) : b = i.opcode ∧ p = i.isPrefixed := by
  have key : ∀ (p : Bool) (b : Byte), ∀ i ∈ decode b p, b = i.opcode ∧ p = i.isPrefixed := by decide +kernel
  exact key p b i h

/-- No opcode byte is the sentinel (R81). -/
theorem opcode_ne_sentinel (i : Instr) : i.opcode ≠ Config.prefixSentinel := by
  cases i <;> decide

/-- Everything `decodeKey` can answer with an instruction: the byte is its opcode, and its operand bytes are the front
of the list. -/
theorem decodeKey_instr {b : Byte} {p : Bool} {bytes ops rest : List Byte} {i : Instr}
    (h : decodeKey b p bytes = .instr i ops rest) :
    decode b p = some i ∧ ops ++ rest = bytes ∧ ops.length = i.operandLength := by
  unfold decodeKey at h
  split at h
  · exact nomatch h
  · next hj =>
    split at h
    · next hl =>
      injection h with hi ho hr
      subst hi ho hr
      exact ⟨hj, List.take_append_drop _ _, by simp [hl]⟩
    · exact nomatch h

end Sys2Proof
end

