-- ==== Sys2Proof/Laws/Ops.lean ====
section
/-! SUPPORT. One lemma per shared operation that says everything it does: the stack procedures as one update, words as
their two bytes, and that each keeps the canonical form of memory. -/

namespace Sys2Proof.Machine

/-! ## Bytes and words (00_scope.md rule R7) -/

theorem joinBytes_toNat (hi lo : Byte) : (joinBytes hi lo).toNat = hi.toNat * 256 + lo.toNat := by
  rw [joinBytes, BitVec.toNat_append, ← Nat.shiftLeft_add_eq_or_of_lt lo.isLt, Nat.shiftLeft_eq]

theorem hi8_toNat (v : Word) : (hi8 v).toNat = v.toNat / 256 := by
  have := v.isLt
  rw [hi8, BitVec.extractLsb'_toNat, Nat.shiftRight_eq_div_pow]
  omega

theorem lo8_toNat (v : Word) : (lo8 v).toNat = v.toNat % 256 := by
  rw [lo8, BitVec.extractLsb'_toNat]
  simp

@[simp] theorem hi8_joinBytes (hi lo : Byte) : hi8 (joinBytes hi lo) = hi := by
  have := lo.isLt
  apply BitVec.eq_of_toNat_eq
  rw [hi8_toNat, joinBytes_toNat]
  omega

@[simp] theorem lo8_joinBytes (hi lo : Byte) : lo8 (joinBytes hi lo) = lo := by
  have := lo.isLt
  apply BitVec.eq_of_toNat_eq
  rw [lo8_toNat, joinBytes_toNat]
  omega

@[simp] theorem joinBytes_hi8_lo8 (v : Word) : joinBytes (hi8 v) (lo8 v) = v := by
  apply BitVec.eq_of_toNat_eq
  rw [joinBytes_toNat, hi8_toNat, lo8_toNat]
  omega

/-! ## The stack procedures (44_stack.md) -/

theorem sp_sub_two (v : Word) : v - 1 - 1 = v - 2 := by bv_omega

theorem sp_add_two (v : Word) : v + 1 + 1 = v + 2 := by bv_omega

theorem sp_sub_two_add_one (v : Word) : v - 2 + 1 = v - 1 := by bv_omega

theorem sp_sub_two_add_two (v : Word) : v - 2 + 2 = v := by bv_omega

theorem sp_sub_one_ne_sub_two (v : Word) : v - 1 ≠ v - 2 := by bv_omega

/-- `push16` as one update (R160): two bytes below sp, the high one at the higher address. -/
theorem State.push16_eq (s : State) (v : Word) :
    s.push16 v = ((s.writeByte (s.sp - 1) (hi8 v)).writeByte (s.sp - 2) (lo8 v)).setSp (s.sp - 2) := by
  simp only [State.push16, State.setSp, State.writeByte, sp_sub_two]

/-- `pop16` as one update (R161). -/
theorem State.pop16_eq (s : State) :
    s.pop16 = (joinBytes (s.readByte (s.sp + 1)) (s.readByte s.sp), s.setSp (s.sp + 2)) := by
  simp only [State.pop16, State.setSp, sp_add_two]
  rfl

theorem State.readByte_push16 (s : State) (v : Word) (a : Word) :
    (s.push16 v).readByte a =
      if a = s.sp - 2 then lo8 v else if a = s.sp - 1 then hi8 v else s.readByte a := by
  rw [State.push16_eq, State.readByte_setSp, State.readByte_writeByte, State.readByte_writeByte]

theorem State.wf_push16 {s : State} (h : s.mem.wf) (v : Word) : (s.push16 v).mem.wf := by
  rw [State.push16_eq]
  exact State.wf_writeByte (State.wf_writeByte h _ _) _ _

theorem State.wf_writeDst {s : State} (h : s.mem.wf) (dst : LoadDst) (v : Byte) : (s.writeDst dst v).mem.wf := by
  cases dst with
  | reg r => simpa [State.writeDst] using h
  | atHL => exact State.wf_writeByte h _ _

end Sys2Proof.Machine
end

