-- ==== Sys2Proof/Laws/Form.lean ====
section
/-! SUPPORT. `exec` by the ten categories of 30_encoding.md rule R76 instead of by its 115 arms, and the inversion of
a step. A proof about every instruction goes through `exec_eq_execForm` and `cases i.form`. -/

namespace Sys2Proof.Machine

/-- The execute rule of each category (40_step_driver.md rule R105). -/
def execForm (i : Instr) (s : State) : Result :=
  match i.form with
  | .add r => addRule r s
  | .inc p => incRule p s
  | .dec p => decRule p s
  | .ld dst src => loadRule dst src s
  | .push q => pushRule q s
  | .pop q => popRule q s
  | .jp t => jpRule t s
  | .call t => callRule t s
  | .ret t => retRule t s
  | .rlc _ => raiseUnimplemented i s

/-- Every arm of `exec` is the rule of its instruction's category. -/
theorem exec_eq_execForm (i : Instr) (s : State) : exec i s = execForm i s := by
  cases i <;> rfl

/-! ## The constructor that a descriptor names -/

@[simp] theorem form_ofAdd (r : Reg8) : (Instr.ofAdd r).form = .add r := by cases r <;> rfl
@[simp] theorem form_ofInc (p : Pair16) : (Instr.ofInc p).form = .inc p := by cases p <;> rfl
@[simp] theorem form_ofDec (p : Pair16) : (Instr.ofDec p).form = .dec p := by cases p <;> rfl
@[simp] theorem form_ofLdRegReg (rd rs : Reg8) : (Instr.ofLdRegReg rd rs).form = .ld (.reg rd) (.reg rs) := by
  cases rd <;> cases rs <;> rfl
@[simp] theorem form_ofLdRegAtHL (rd : Reg8) : (Instr.ofLdRegAtHL rd).form = .ld (.reg rd) .atHL := by cases rd <;> rfl
@[simp] theorem form_ofLdAtHLReg (r : Reg8) : (Instr.ofLdAtHLReg r).form = .ld .atHL (.reg r) := by cases r <;> rfl
@[simp] theorem form_ofLdRegD8 (rd : Reg8) : (Instr.ofLdRegD8 rd).form = .ld (.reg rd) .d8 := by cases rd <;> rfl
@[simp] theorem form_ofPush (q : StackPair) : (Instr.ofPush q).form = .push q := by cases q <;> rfl
@[simp] theorem form_ofPop (q : StackPair) : (Instr.ofPop q).form = .pop q := by cases q <;> rfl
@[simp] theorem form_ofJp (t : Test) : (Instr.ofJp t).form = .jp t := by cases t <;> rfl
@[simp] theorem form_ofCall (t : Test) : (Instr.ofCall t).form = .call t := by cases t <;> rfl
@[simp] theorem form_ofRet (t : Test) : (Instr.ofRet t).form = .ret t := by cases t <;> rfl
@[simp] theorem form_ofRlc (t : RotTarget) : (Instr.ofRlc t).form = .rlc t := by
  cases t with
  | reg r => cases r <;> rfl
  | atHL => rfl

theorem exec_ofAdd (r : Reg8) (s : State) : exec (.ofAdd r) s = addRule r s := by cases r <;> rfl
theorem exec_ofInc (p : Pair16) (s : State) : exec (.ofInc p) s = incRule p s := by cases p <;> rfl
theorem exec_ofDec (p : Pair16) (s : State) : exec (.ofDec p) s = decRule p s := by cases p <;> rfl
theorem exec_ofLdRegReg (rd rs : Reg8) (s : State) :
    exec (.ofLdRegReg rd rs) s = loadRule (.reg rd) (.reg rs) s := by cases rd <;> cases rs <;> rfl
theorem exec_ofLdRegAtHL (rd : Reg8) (s : State) :
    exec (.ofLdRegAtHL rd) s = loadRule (.reg rd) .atHL s := by cases rd <;> rfl
theorem exec_ofLdAtHLReg (r : Reg8) (s : State) :
    exec (.ofLdAtHLReg r) s = loadRule .atHL (.reg r) s := by cases r <;> rfl
theorem exec_ofLdRegD8 (rd : Reg8) (s : State) : exec (.ofLdRegD8 rd) s = loadRule (.reg rd) .d8 s := by
  cases rd <;> rfl
theorem exec_ofPush (q : StackPair) (s : State) : exec (.ofPush q) s = pushRule q s := by cases q <;> rfl
theorem exec_ofPop (q : StackPair) (s : State) : exec (.ofPop q) s = popRule q s := by cases q <;> rfl
theorem exec_ofJp (t : Test) (s : State) : exec (.ofJp t) s = jpRule t s := by cases t <;> rfl
theorem exec_ofCall (t : Test) (s : State) : exec (.ofCall t) s = callRule t s := by cases t <;> rfl
theorem exec_ofRet (t : Test) (s : State) : exec (.ofRet t) s = retRule t s := by cases t <;> rfl

theorem exec_ofRlc (t : RotTarget) (s : State) : exec (.ofRlc t) s = raiseUnimplemented (.ofRlc t) s := by
  cases t with
  | reg r => cases r <;> rfl
  | atHL => rfl
theorem exec_ldAtHLD8 (s : State) : exec .ldAtHLD8 s = loadRule .atHL .d8 s := rfl

/-! ## Inversion of a step -/

/-- A step that answers a next state executed the instruction its fetch decodes to. -/
theorem step_next {s t : State} (h : step s = .next t) :
    ∃ i, decode s.fetch.1 s.fetch.2 = some i ∧ exec i s = .next t := by
  unfold step at h
  split at h
  · exact nomatch h
  · next i hi => exact ⟨i, hi, h⟩

/-- The three cases of a fetch (40_step_driver.md rule R102). -/
theorem State.fetch_cases (s : State) :
    (s.readByte s.pc = Config.prefixSentinel ∧ s.fetch = (s.readByte (s.pc + 1), true)) ∨
      (s.readByte s.pc ≠ Config.prefixSentinel ∧ s.fetch = (s.readByte s.pc, false)) := by
  unfold State.fetch
  split
  · next h => exact .inl ⟨h, rfl⟩
  · next h => exact .inr ⟨h, rfl⟩

end Sys2Proof.Machine
end

