-- ==== Sys2Proof/Tests/Slice0.lean ====
section
/-! SUPPORT. Small tests: the well-formedness check, every constructor's word written out bit by bit, one or two steps of
every family from the vectors of 95_test_vectors.md, and a witness for each statement that has hypotheses. -/

namespace Sys2Proof.Tests

open Sys2Proof.Machine

/-! ## Helpers -/

/-- The reset state with pc at `pc` and bytes stored from there on. -/
def placed (pc : Word) (bytes : List Byte) : State := ({ State.reset with pc := pc }).writeBytes pc bytes

/-- The state after an Ok step. -/
def after (s : State) : Option State :=
  match step s with
  | .next t => some t
  | .fault _ => none
  | .refused _ => none

/-! ## Well-formedness (30_encoding.md rule R76) -/

theorem test_wellFormed_refuses_ld_atHL_atHL : Form.wellFormed (.ld .atHL .atHL) = false := by decide
theorem test_wellFormed_admits_ld_atHL_a : Form.wellFormed (.ld .atHL (.reg .a)) = true := by decide

/-! ## Decoding: words written from the bit fields of rules R71-R74 -/

/-- `10 000 sss` (R71). -/
theorem test_decode_add :
    [0b10000000, 0b10000001, 0b10000010, 0b10000011, 0b10000100, 0b10000101, 0b10000111].map (decode · false) =
      [some .addAB, some .addAC, some .addAD, some .addAE, some .addAH, some .addAL, some .addAA] := by
  decide

/-- `00 pp0 011` (R71). -/
theorem test_decode_inc :
    [0b00000011, 0b00010011, 0b00100011].map (decode · false) =
      [some .incBC, some .incDE, some .incHL] := by
  decide

/-- `00 pp1 011` (R71). -/
theorem test_decode_dec :
    [0b00001011, 0b00011011, 0b00101011].map (decode · false) =
      [some .decBC, some .decDE, some .decHL] := by
  decide

/-- `01 ddd sss`, ddd = 000 (R71). -/
theorem test_decode_ld_b :
    [0b01000000, 0b01000001, 0b01000010, 0b01000011, 0b01000100, 0b01000101, 0b01000111].map (decode · false) =
      [some .ldBB, some .ldBC, some .ldBD, some .ldBE, some .ldBH, some .ldBL, some .ldBA] := by
  decide

/-- `01 ddd sss`, ddd = 001 (R71). -/
theorem test_decode_ld_c :
    [0b01001000, 0b01001001, 0b01001010, 0b01001011, 0b01001100, 0b01001101, 0b01001111].map (decode · false) =
      [some .ldCB, some .ldCC, some .ldCD, some .ldCE, some .ldCH, some .ldCL, some .ldCA] := by
  decide

/-- `01 ddd sss`, ddd = 010 (R71). -/
theorem test_decode_ld_d :
    [0b01010000, 0b01010001, 0b01010010, 0b01010011, 0b01010100, 0b01010101, 0b01010111].map (decode · false) =
      [some .ldDB, some .ldDC, some .ldDD, some .ldDE, some .ldDH, some .ldDL, some .ldDA] := by
  decide

/-- `01 ddd sss`, ddd = 011 (R71). -/
theorem test_decode_ld_e :
    [0b01011000, 0b01011001, 0b01011010, 0b01011011, 0b01011100, 0b01011101, 0b01011111].map (decode · false) =
      [some .ldEB, some .ldEC, some .ldED, some .ldEE, some .ldEH, some .ldEL, some .ldEA] := by
  decide

/-- `01 ddd sss`, ddd = 100 (R71). -/
theorem test_decode_ld_h :
    [0b01100000, 0b01100001, 0b01100010, 0b01100011, 0b01100100, 0b01100101, 0b01100111].map (decode · false) =
      [some .ldHB, some .ldHC, some .ldHD, some .ldHE, some .ldHH, some .ldHL, some .ldHA] := by
  decide

/-- `01 ddd sss`, ddd = 101 (R71). -/
theorem test_decode_ld_l :
    [0b01101000, 0b01101001, 0b01101010, 0b01101011, 0b01101100, 0b01101101, 0b01101111].map (decode · false) =
      [some .ldLB, some .ldLC, some .ldLD, some .ldLE, some .ldLH, some .ldLL, some .ldLA] := by
  decide

/-- `01 ddd sss`, ddd = 111 (R71). -/
theorem test_decode_ld_a :
    [0b01111000, 0b01111001, 0b01111010, 0b01111011, 0b01111100, 0b01111101, 0b01111111].map (decode · false) =
      [some .ldAB, some .ldAC, some .ldAD, some .ldAE, some .ldAH, some .ldAL, some .ldAA] := by
  decide

/-- `01 ddd 110` (R71). -/
theorem test_decode_ld_atHL_source :
    [0b01000110, 0b01001110, 0b01010110, 0b01011110, 0b01100110, 0b01101110, 0b01111110].map (decode · false) =
      [some .ldBAtHL, some .ldCAtHL, some .ldDAtHL, some .ldEAtHL, some .ldHAtHL, some .ldLAtHL, some .ldAAtHL] := by
  decide

/-- `01 110 sss` (R71). -/
theorem test_decode_ld_atHL_dest :
    [0b01110000, 0b01110001, 0b01110010, 0b01110011, 0b01110100, 0b01110101, 0b01110111].map (decode · false) =
      [some .ldAtHLB, some .ldAtHLC, some .ldAtHLD, some .ldAtHLE, some .ldAtHLH, some .ldAtHLL, some .ldAtHLA] := by
  decide

/-- `00 ddd 110` (R71). -/
theorem test_decode_ld_d8 :
    [0b00000110, 0b00001110, 0b00010110, 0b00011110, 0b00100110, 0b00101110, 0b00111110, 0b00110110].map (decode · false) =
      [some .ldBD8, some .ldCD8, some .ldDD8, some .ldED8, some .ldHD8, some .ldLD8, some .ldAD8, some .ldAtHLD8] := by
  decide

/-- `11 qq0 101` (R71). -/
theorem test_decode_push :
    [0b11000101, 0b11010101, 0b11100101, 0b11110101].map (decode · false) =
      [some .pushBC, some .pushDE, some .pushHL, some .pushAF] := by
  decide

/-- `11 qq0 001` (R71). -/
theorem test_decode_pop :
    [0b11000001, 0b11010001, 0b11100001, 0b11110001].map (decode · false) =
      [some .popBC, some .popDE, some .popHL, some .popAF] := by
  decide

/-- `110 cc 010`, and the ALWAYS opcode (R71). -/
theorem test_decode_jp :
    [0b11000010, 0b11001010, 0b11010010, 0b11011010, 0b11000011].map (decode · false) =
      [some .jpNZ, some .jpZ, some .jpNC, some .jpC, some .jp] := by
  decide

/-- `110 cc 100`, and the ALWAYS opcode (R71). -/
theorem test_decode_call :
    [0b11000100, 0b11001100, 0b11010100, 0b11011100, 0b11001101].map (decode · false) =
      [some .callNZ, some .callZ, some .callNC, some .callC, some .call] := by
  decide

/-- `110 cc 000`, and the ALWAYS opcode (R71). -/
theorem test_decode_ret :
    [0b11000000, 0b11001000, 0b11010000, 0b11011000, 0b11001001].map (decode · false) =
      [some .retNZ, some .retZ, some .retNC, some .retC, some .ret] := by
  decide

/-- `00 000 rrr` after 0xCB (R71). -/
theorem test_decode_rlc :
    [0b00000000, 0b00000001, 0b00000010, 0b00000011, 0b00000100, 0b00000101, 0b00000111, 0b00000110].map (decode · true) =
      [some .rlcB, some .rlcC, some .rlcD, some .rlcE, some .rlcH, some .rlcL, some .rlcA, some .rlcAtHL] := by
  decide

/-- Gaps of rule R80 and the sentinel (R81). -/
theorem test_decode_gaps :
    [0x00, 0x33, 0x3B, 0x76, 0x86, 0xC6, 0xCB, 0xD3, 0xE9, 0xFF].map (decode · false) =
      List.replicate 10 none := by
  decide

theorem test_decode_prefixed_gaps : [0x08, 0xCB, 0xFF].map (decode · true) = List.replicate 3 none := by decide

/-- A three-byte instruction, its operand bytes low byte first (R71). -/
theorem test_decodeBytes_call :
    decodeBytes [0xCD, 0x34, 0x12, 0x00] = .instr .call [0x34, 0x12] [0x00] := by decide

theorem test_decodeBytes_truncated : decodeBytes [0xC3, 0x34] = .truncated := by decide
theorem test_decodeBytes_unknown : decodeBytes [0xCB, 0x37, 0x00] = .unknownOpcode 0x37 true := by decide
theorem test_encodeWith_jp_nc : encodeWith .jpNC [0x04, 0x01] = [0xD2, 0x04, 0x01] := by decide

/-- The table writes RLC (HL) as 0xCB06 (log entry 5) and LD D,d8 as 0x16. -/
theorem test_decodeTableWord :
    decodeTableWord 16 0xCB06 = some .rlcAtHL ∧ decodeTableWord 8 0x16 = some .ldDD8 ∧
      decodeTableWord 16 0x0416 = some .ldDD8 ∧ decodeTableWord 8 0x76 = none := by decide

/-! ## Steps: the vectors of 95_test_vectors.md -/

/-- Vectors A-2 and A-10: wrap to zero; ADD A,A uses the old A twice. F is checked as a byte. -/
theorem test_add_wraps :
    (after { placed 0 [0x80] with a := 0xFF, b := 0x01, flagN := true, flagC := true }).map
      (fun t => (t.a, t.flagsByte, t.pc)) = some (0x00, 0xB0, 0x0001) := by decide

theorem test_add_a_a :
    (after { placed 0 [0x87] with a := 0x88, flagN := true, flagC := true }).map
      (fun t => (t.a, t.flagsByte)) = some (0x10, 0x30) := by decide

/-- Vector A-8: the old carry is not added. -/
theorem test_add_ignores_old_carry :
    (after { placed 0 [0x80] with a := 0x10, b := 0x20, flagN := true, flagC := true }).map
      (fun t => (t.a, t.flagsByte)) = some (0x30, 0x00) := by decide

/-- Vector A-12: pc wraps. -/
theorem test_add_pc_wraps :
    (after { placed 0xFFFF [0x81] with a := 0x01, c := 0x02 }).map (fun t => (t.a, t.pc)) =
      some (0x03, 0x0000) := by decide

/-- Vectors I-1 to I-4. -/
theorem test_inc_hl_wraps :
    (after (({ placed 0 [0x23] with h := 0xFF, l := 0xFF }).setFlagsByte 0xF0)).map
      (fun t => (t.h, t.l, t.flagsByte)) = some (0x00, 0x00, 0xF0) := by decide

theorem test_inc_bc_carries :
    (after { placed 0 [0x03] with b := 0x00, c := 0xFF }).map (fun t => (t.b, t.c)) =
      some (0x01, 0x00) := by decide

theorem test_dec_bc_wraps :
    (after (placed 0 [0x0B])).map (fun t => (t.b, t.c, t.flagZ)) = some (0xFF, 0xFF, false) := by decide

theorem test_dec_de_borrows :
    (after { placed 0 [0x1B] with d := 0x01, e := 0x00 }).map (fun t => (t.d, t.e)) =
      some (0x00, 0xFF) := by decide

/-- Vectors L-1, L-3 to L-10. -/
theorem test_ld_a_b :
    (after { placed 0 [0x78] with b := 0x12 }).map (fun t => (t.a, t.b, t.pc)) = some (0x12, 0x12, 0x0001) := by decide

theorem test_ld_h_atHL_uses_old_hl :
    (after ({ placed 0 [0x66] with h := 0xC0, l := 0x12 }.writeByte 0xC012 0x77)).map (fun t => (t.h, t.l)) =
      some (0x77, 0x12) := by decide

theorem test_ld_l_atHL_uses_old_hl :
    (after ({ placed 0 [0x6E] with h := 0xC0, l := 0x12 }.writeByte 0xC012 0x77)).map (fun t => (t.h, t.l)) =
      some (0xC0, 0x77) := by decide

theorem test_ld_atHL_h :
    (after { placed 0 [0x74] with h := 0xC0, l := 0x12 }).map (fun t => t.readByte 0xC012) = some 0xC0 := by decide

theorem test_ld_a_atHL_reads_own_opcode :
    (after { placed 0x0200 [0x7E] with h := 0x02 }).map (fun t => (t.a, t.pc)) = some (0x7E, 0x0201) := by decide

theorem test_ld_atHL_d8_over_own_opcode :
    (after { placed 0x0200 [0x36, 0x55] with h := 0x02 }).map
      (fun t => (t.readByte 0x0200, t.readByte 0x0201, t.pc)) = some (0x55, 0x55, 0x0202) := by decide

theorem test_ld_e_d8_wraps :
    (after (placed 0xFFFF [0x1E, 0x99])).map (fun t => (t.e, t.pc)) = some (0x99, 0x0001) := by decide

/-- Vectors K-1, K-3 to K-6. -/
theorem test_push_bc :
    (after { placed 0x0100 [0xC5] with sp := 0xD000, b := 0x12, c := 0x34 }).map
      (fun t => (t.readByte 0xCFFF, t.readByte 0xCFFE, t.sp)) = some (0x12, 0x34, 0xCFFE) := by decide

theorem test_push_de_straddles :
    (after { placed 0x0100 [0xD5] with sp := 0x0001, d := 0xAB, e := 0xCD }).map
      (fun t => (t.readByte 0x0000, t.readByte 0xFFFF, t.sp)) = some (0xAB, 0xCD, 0xFFFF) := by decide

theorem test_pop_hl_straddles :
    (after (({ placed 0x0100 [0xE1] with sp := 0xFFFF }).writeBytes 0xFFFF [0x34, 0x12])).map
      (fun t => (t.h, t.l, t.sp)) = some (0x12, 0x34, 0x0001) := by decide

theorem test_pop_af_drops_low_nibble :
    (after (({ placed 0x0100 [0xF1] with sp := 0xC000 }).writeBytes 0xC000 [0x5F, 0x99])).map
      (fun t => (t.a, t.flagsByte, t.sp)) = some (0x99, 0x50, 0xC002) := by decide

theorem test_push_af :
    (after (({ placed 0x0100 [0xF5] with sp := 0xD000, a := 0x42 }).setFlagsByte 0xBF)).map
      (fun t => (t.readByte 0xCFFF, t.readByte 0xCFFE)) = some (0x42, 0xB0) := by decide

/-- Vectors J-1 to J-11. -/
theorem test_jp_conditions :
    [0xC2, 0xCA, 0xD2, 0xDA, 0xC3].map (fun b => (after (placed 0x0150 [b, 0x34, 0x12])).map (·.pc)) =
      [some 0x1234, some 0x0153, some 0x1234, some 0x0153, some 0x1234] ∧
    [0xC2, 0xCA, 0xD2, 0xDA, 0xC3].map
      (fun b => (after ((placed 0x0150 [b, 0x34, 0x12]).setFlagsByte 0xF0)).map (·.pc)) =
      [some 0x0153, some 0x1234, some 0x0153, some 0x1234, some 0x1234] := by decide

theorem test_jp_wraps :
    (after (placed 0xFFFE [0xCA, 0x34, 0x12])).map (·.pc) = some 0x0001 ∧
      (after (placed 0xFFFE [0xC3, 0x34, 0x12])).map (·.pc) = some 0x1234 := by decide

/-- Vectors C-1, C-2, C-4. -/
theorem test_call :
    (after { placed 0x0005 [0xCD, 0x10, 0x00] with sp := 0xD000 }).map
      (fun t => (t.readByte 0xCFFF, t.readByte 0xCFFE, t.sp, t.pc)) = some (0x00, 0x08, 0xCFFE, 0x0010) := by decide

theorem test_call_nz_not_taken :
    (after { placed 0x0005 [0xC4, 0x10, 0x00] with sp := 0xD000, flagZ := true }).map
      (fun t => (t.sp, t.pc)) = some (0xD000, 0x0008) := by decide

theorem test_call_reads_target_after_push :
    (after { placed 0x0000 [0xCD, 0x34, 0x12] with sp := 0x0003 }).map
      (fun t => (t.readByte 0x0002, t.readByte 0x0001, t.sp, t.pc)) = some (0x00, 0x03, 0x0001, 0x0003) := by decide

/-- Vectors T-1 to T-3. -/
theorem test_ret :
    (after (({ placed 0x0010 [0xC9] with sp := 0xCFFE }).writeBytes 0xCFFE [0x08, 0x00])).map
      (fun t => (t.pc, t.sp)) = some (0x0008, 0xD000) := by decide

theorem test_ret_z_not_taken :
    (after { placed 0x0010 [0xC8] with sp := 0xCFFE }).map (fun t => (t.pc, t.sp)) =
      some (0x0011, 0xCFFE) := by decide

theorem test_ret_nc_straddles :
    (after (({ placed 0x0010 [0xD0] with sp := 0xFFFF }).writeBytes 0xFFFF [0x08, 0x01])).map
      (fun t => (t.pc, t.sp)) = some (0x0108, 0x0001) := by decide

/-- Vectors P-1, P-2, P-4, P-6 and U-1, with the state each leaves. -/
theorem test_failures :
    (placed 0 [0xCB, 0x00]).request = (.unimplementedInstruction 0x00 true .rlcB, placed 0 [0xCB, 0x00]) ∧
    (placed 0 [0xCB, 0x06]).request.1 = .unimplementedInstruction 0x06 true .rlcAtHL ∧
    (placed 0 [0xCB, 0x08]).request.1 = .unknownOpcode 0x08 true ∧
    (placed 0xFFFF [0xCB, 0x37]).request.1 = .unknownOpcode 0x37 true ∧
    (placed 0x0300 [0x00]).request = (.unknownOpcode 0x00 false, placed 0x0300 [0x00]) := by decide

/-- The reset state fetches 0x00 (log entry 3). -/
theorem test_reset_fetches_unmapped : State.reset.request = (.unknownOpcode 0x00 false, State.reset) := by decide

/-! ## Witnesses: each hypothesis of a statement can be met -/

theorem witness_unmapped_primary :
    ((placed 0 [0xFF]).readByte 0).toNat ∈ Claims.unmappedPrimary ∧
      (State.reset.readByte 0).toNat ∈ Claims.unmappedPrimary := by decide

theorem witness_unmapped_prefixed :
    (placed 0xFFFF [0xCB, 0x08]).readByte 0xFFFF = 0xCB ∧ 8 ≤ ((placed 0xFFFF [0xCB, 0x08]).readByte 0x0000).toNat := by
  decide

theorem witness_decode_encode :
    ([0x34, 0x12] : List Byte).length = Instr.call.operandLength ∧
      decodeBytes [0xCB, 0x07] = .instr .rlcA [] [] := by decide

theorem witness_stored_instruction :
    ([0xFF] : List Byte).length = Instr.ldAD8.operandLength ∧
      ([0x00, 0xFF] : List Byte).length = Instr.jp.operandLength := by decide

theorem witness_fetch_word : decodeTableWord 16 0xCB00 = some .rlcB ∧ decodeTableWord 8 0xC3 = some .jp := by decide

/-- `StepRunsTheDecodedInstruction`: the two cases of the fetch, and the three cases of decode. -/
theorem witness_step_runs :
    ((placed 0 [0xCB, 0x07]).readByte 0 = 0xCB ∧ (placed 0 [0xCB, 0x07]).readByte 1 = 0x07 ∧
      decode 0x07 true = some .rlcA ∧ Claims.isRotate Instr.rlcA.form = true) ∧
    ((placed 0 [0x80]).readByte 0 ≠ 0xCB ∧ decode 0x80 false = some .addAB) ∧ decode 0x08 true = none := by decide

theorem witness_not_rotate : Claims.isRotate Instr.ret.form = false ∧ Claims.isTransfer Instr.ldAtHLD8.form = false := by
  decide

theorem witness_rotate_in_memory :
    (placed 0xFFFF [0xCB, 0x06]).readByte 0xFFFF = 0xCB ∧
      (placed 0xFFFF [0xCB, 0x06]).readByte 0x0000 = (0b00000#5 ++ RotTarget.atHL.code : Byte) := by decide

theorem witness_failing_request : State.reset.request.1 ≠ .ok ∧ decode 0x80 false = some .addAB := by decide

theorem witness_conditions :
    State.reset.cond .z = false ∧ State.reset.cond .c = false ∧ State.reset.cond .nz = true ∧
      State.reset.cond .always = true := by decide

theorem witness_low_nibble_zero : (0xF0 : Byte) &&& 0x0F = 0 := by decide

/-- The frame statements: an instruction that executes, a register and flags it does not write, and an address it does
not store to. -/
theorem witness_frames :
    exec .pushBC State.reset = .next ((State.reset.push16 0x0000).setPc 0x0001) ∧
      Claims.writesReg Instr.pushBC.form .b = false ∧ Claims.writesFlags Instr.pushBC.form = false ∧
      (0xFFFD : Word) ∉ Claims.storedTo State.reset Instr.pushBC.form := by
  exact ⟨rfl, by decide, by decide, by decide⟩

theorem witness_other_address : (0x0000 : Word) ≠ 0xFFFF := by decide

/-- `HostWriteIsSeenByTheNextStep`: a byte that decodes, and an address other than pc. -/
theorem witness_host_write : decode 0x80 false = some .addAB ∧ (0xFFFF : Word) ≠ State.reset.pc := by decide

/-- The ends of the address space, in the clauses of `AddressesWrap`. -/
theorem witness_wrap :
    (placed 0xFFFF [0x3E, 0x01]).pc = 0xFFFF ∧
      ((placed 0xFFFE [0xC3]).pc = 0xFFFE ∧ (placed 0xFFFE [0xC3]).cond .always = true) ∧
      ({ State.reset with sp := 0x0001 }).sp = 0x0001 ∧ ({ State.reset with sp := 0xFFFF }).sp = 0xFFFF := by decide

theorem witness_canonical_memories :
    Memory.wf [(0x0000, 0x01), (0xFFFF, 0x02)] ∧
      (Memory.write [(0x0000, 0x01)] 0xFFFF 0x02) = [(0x0000, 0x01), (0xFFFF, 0x02)] := by decide

theorem witness_store_over_next :
    ({ State.reset with pc := 0xFFFF, b := 0x80 }).addrHL = ({ State.reset with pc := 0xFFFF, b := 0x80 }).pc + 1 ∧
      ({ State.reset with pc := 0xFFFF, b := 0x80 }).getReg .b ≠ 0xCB := by decide

theorem witness_call_over_operand :
    ({ State.reset with sp := 0x0003 }).cond .nz = true ∧
      ({ State.reset with sp := 0x0003 }).sp = ({ State.reset with sp := 0x0003 }).pc + 3 := by decide

theorem witness_push_frame : (0x0000 : Word) ≠ State.reset.sp - 1 ∧ (0x0000 : Word) ≠ State.reset.sp - 2 := by decide

/-- The state a taken CALL leaves from reset. -/
def called : State := (State.reset.push16 0x0003).setPc 0x0000

/-- `CallReturnRoundTrip`: a taken CALL, and a state reached later, A and pc changed, that still has its stack. -/
theorem witness_call_return :
    State.reset.cond .nz = true ∧ exec .callNZ State.reset = .next called ∧
      ({ called with a := 0x80, pc := 0x1234 }).cond .always = true ∧
      ({ called with a := 0x80, pc := 0x1234 }).sp = called.sp ∧
      ({ called with a := 0x80, pc := 0x1234 }).readByte called.sp = called.readByte called.sp ∧
      ({ called with a := 0x80, pc := 0x1234 }).readByte (called.sp + 1) = called.readByte (called.sp + 1) := by
  exact ⟨by decide, rfl, by decide, by decide, by decide, by decide⟩

theorem witness_first_instruction :
    decode (Memory.read [(0x0000, 0x80)] Config.resetState.pc.toNat) false = some .addAB := by decide

theorem witness_invariant :
    (placed 0 [0x77]).Inv ∧ Memory.wf (placed 0xFFFF [0x77, 0x01]).mem ∧
      step (placed 0 [0x80]) = .next ((addRule .b (placed 0 [0x80]) |> stateAfter (placed 0 [0x80]))) := by
  exact ⟨by decide, by decide, rfl⟩

end Sys2Proof.Tests
end

section
/-! SUPPORT. Registers, the flags byte and the register pairs (10_state.md rules R21-R33): what each write does and
what a read gives after it, in arithmetic. -/

namespace Sys2Proof.Machine

open Sys2Proof.Claims

/-! ## Bytes and words as numbers -/

theorem hi8_eq_ofNat (v : Word) : hi8 v = BitVec.ofNat 8 (v.toNat / 256) := by
  rw [← hi8_toNat, BitVec.ofNat_toNat, BitVec.setWidth_eq]

theorem lo8_eq_ofNat (v : Word) : lo8 v = BitVec.ofNat 8 (v.toNat % 256) := by
  rw [← lo8_toNat, BitVec.ofNat_toNat, BitVec.setWidth_eq]

/-- The mask 0x0F keeps the low nibble. -/
theorem and_0F_toNat (v : Byte) : (v &&& 0x0F).toNat = v.toNat % 16 := by
  rw [BitVec.toNat_and]
  exact Nat.and_two_pow_sub_one_eq_mod v.toNat 4

/-- The mask with bits 3-0 clear and every other bit set, at any width, drops the low nibble. -/
theorem and_not_15_toNat {w : Nat} (v : BitVec w) : (v &&& ~~~(15#w)).toNat = v.toNat / 16 * 16 := by
  have hshift : v &&& ~~~(15#w) = (v >>> 4) <<< 4 := by
    ext i hi
    have h15 : (15#w)[i] = decide (i < 4) := by
      rw [← BitVec.getLsbD_eq_getElem, BitVec.getLsbD_ofNat, Nat.testBit_two_pow_sub_one 4 i]
      simp [hi]
    by_cases h4 : i < 4
    · simp [h15, h4]
    · simp [h15, h4, BitVec.getLsbD_eq_getElem hi, show 4 + (i - 4) = i by omega]
  have hle : v.toNat / 16 * 16 < 2 ^ w := Nat.lt_of_le_of_lt (Nat.div_mul_le_self _ _) v.isLt
  rw [hshift, BitVec.toNat_shiftLeft, BitVec.toNat_ushiftRight, Nat.shiftLeft_eq, Nat.shiftRight_eq_div_pow]
  exact Nat.mod_eq_of_lt hle

theorem and_F0_toNat (v : Byte) : (v &&& 0xF0).toNat = v.toNat / 16 * 16 := and_not_15_toNat v

theorem and_FFF0_toNat (v : Word) : (v &&& 0xFFF0).toNat = v.toNat / 16 * 16 := and_not_15_toNat v

/-! ## Registers (R21) -/

theorem State.setReg_setReg_getReg (s : State) (r : Reg8) (v : Byte) : (s.setReg r v).setReg r (s.getReg r) = s := by
  cases r <;> rfl

/-! ## The flags byte (R25-R27) -/

theorem State.flagsByte_toNat (s : State) : s.flagsByte.toNat = flagsValue s := by
  unfold State.flagsByte flagsValue
  cases s.flagZ <;> cases s.flagN <;> cases s.flagH <;> cases s.flagC <;> rfl

theorem flagsValue_mod_16 (s : State) : flagsValue s % 16 = 0 := by
  unfold flagsValue
  omega

theorem State.setFlagsByte_eq (s : State) (v : Byte) : s.setFlagsByte v = withFlags s v.toNat := by
  simp only [State.setFlagsByte, State.setFlags, withFlags, BitVec.getLsbD, Nat.testBit_eq_decide_div_mod_eq,
    Nat.reducePow]

theorem toNat_decide_mod_two (n : Nat) : (decide (n % 2 = 1)).toNat = n % 2 := by
  rcases Nat.mod_two_eq_zero_or_one n with h | h <;> simp [h]

/-- The flags set from a byte, read back, are that byte without its low nibble. -/
theorem flagsValue_withFlags (s : State) {n : Nat} (hn : n < 256) : flagsValue (withFlags s n) = n / 16 * 16 := by
  simp only [flagsValue, withFlags, toNat_decide_mod_two]
  omega

/-- Setting the flags from what they read as changes nothing. -/
theorem withFlags_flagsValue (s : State) : withFlags s (flagsValue s) = s := by
  obtain ⟨pc, sp, a, b, c, d, e, h, l, flagZ, flagN, flagH, flagC, mem⟩ := s
  cases flagZ <;> cases flagN <;> cases flagH <;> cases flagC <;> simp [withFlags, flagsValue]

@[simp] theorem State.flagsByte_setFlagsByte (s : State) (v : Byte) : (s.setFlagsByte v).flagsByte = v &&& 0xF0 := by
  apply BitVec.eq_of_toNat_eq
  rw [State.flagsByte_toNat, State.setFlagsByte_eq, flagsValue_withFlags s v.isLt, and_F0_toNat]

@[simp] theorem State.setFlagsByte_flagsByte (s : State) : s.setFlagsByte s.flagsByte = s := by
  rw [State.setFlagsByte_eq, State.flagsByte_toNat, withFlags_flagsValue]

theorem and_F0_eq_self {v : Byte} (h : v &&& 0x0F = 0) : v &&& 0xF0 = v := by
  have hlow : v.toNat % 16 = 0 := by rw [← and_0F_toNat, h]; rfl
  apply BitVec.eq_of_toNat_eq
  rw [and_F0_toNat]
  omega

/-! ## The register pairs (R28-R30) -/

theorem State.getPair_toStack_toNat (s : State) (p : Pair16) : (s.getPair p.toStack).toNat = pairValue s p := by
  cases p <;> exact joinBytes_toNat _ _

theorem State.getPair_af_toNat (s : State) : (s.getPair .af).toNat = s.a.toNat * 256 + flagsValue s := by
  rw [State.getPair, joinBytes_toNat, State.flagsByte_toNat]

theorem State.setPair_toStack_eq (s : State) (p : Pair16) (v : Word) :
    s.setPair p.toStack v = withPair s p v.toNat := by
  cases p <;> simp only [withPair, ← hi8_eq_ofNat, ← lo8_eq_ofNat] <;> rfl

theorem State.setPair_af_eq (s : State) (v : Word) :
    s.setPair .af v = { withFlags s (v.toNat % 256) with a := BitVec.ofNat 8 (v.toNat / 256) } := by
  rw [State.setPair, State.setFlagsByte_eq, ← hi8_eq_ofNat, lo8_toNat]
  rfl

@[simp] theorem State.getPair_setPair_toStack (s : State) (p : Pair16) (v : Word) :
    (s.setPair p.toStack v).getPair p.toStack = v := by
  cases p <;> exact joinBytes_hi8_lo8 v

theorem State.getPair_setPair_af (s : State) (v : Word) : (s.setPair .af v).getPair .af = v &&& 0xFFF0 := by
  have hread : (s.setPair .af v).getPair .af = joinBytes (hi8 v) (lo8 v &&& 0xF0) := by
    simp [State.setPair, State.getPair]
  apply BitVec.eq_of_toNat_eq
  rw [hread, joinBytes_toNat, and_F0_toNat, and_FFF0_toNat, hi8_toNat, lo8_toNat]
  omega

theorem and_FFF0_eq_self_iff (v : Word) : v &&& 0xFFF0 = v ↔ v.toNat % 16 = 0 := by
  rw [← BitVec.toNat_inj, and_FFF0_toNat]
  omega

/-! ## The obligations about registers, flags and pairs -/

/-- Settles O16. -/
theorem registerWriteReadsBack : Obligations.RegisterWriteReadsBack :=
  fun s r r' v => ⟨s.getReg_setReg r r' v, s.setReg_setReg_getReg r v⟩

/-- Settles O17. -/
theorem flagsByteReadsTheFlags : Obligations.FlagsByteReadsTheFlags :=
  fun s => ⟨s.flagsByte_toNat, by rw [s.flagsByte_toNat]; exact flagsValue_mod_16 s⟩

/-- Settles O18: all four clauses go through the number that F reads as. -/
theorem flagsByteRoundTrip : Obligations.FlagsByteRoundTrip :=
  fun s v => ⟨s.setFlagsByte_eq v, s.flagsByte_setFlagsByte v,
    fun h => by rw [s.flagsByte_setFlagsByte, and_F0_eq_self h], s.setFlagsByte_flagsByte⟩

/-- Settles O19. -/
theorem pairsAreViews : Obligations.PairsAreViews :=
  ⟨State.getPair_toStack_toNat, State.getPair_af_toNat, State.setPair_toStack_eq, State.setPair_af_eq⟩

/-- Settles O20. -/
theorem pairRoundTrip : Obligations.PairRoundTrip :=
  fun s v => ⟨fun p => s.getPair_setPair_toStack p v, s.getPair_setPair_af v,
    by rw [s.getPair_setPair_af]; exact and_FFF0_eq_self_iff v⟩

/-- Settles O21: each test is its flag or the flag's negation. -/
theorem conditionTests : Obligations.ConditionTests := by
  intro s
  simp [State.cond]

/-- Settles O53: `Config.resetState` is zero in every field, and an address with no cell reads 0x00. -/
theorem modelResetIsZero : Obligations.ModelResetIsZero :=
  ⟨rfl, rfl, fun r => by cases r <;> rfl, rfl, fun _ => rfl⟩

end Sys2Proof.Machine
end

section
/-! SUPPORT. What an instruction does, once for all 115 of them: the state each category of rule R76 leaves, and from
it the frames of 10_state.md rule R39 (registers, flags, sp, memory). -/

namespace Sys2Proof.Machine

open Sys2Proof.Claims

/-! ## The state an instruction leaves -/

/-- The state after a completed instruction, by category (41-45; 40_step_driver.md rule R104), each procedure and each
condition written out as one update. A rotate never completes (R190, R191): its row changes nothing. -/
def State.afterForm (s : State) : Form → State
  | .add r =>
    let sum := (s.getReg .a).toNat + (s.getReg r).toNat
    let res : Byte := BitVec.ofNat 8 sum
    ((s.setReg .a res).setFlags (zeroFlag res) false (halfCarryFlag (s.getReg .a) (s.getReg r)) (carryFlag sum)).setPc
      (s.pc + 1)
  | .inc p => (s.setPair p.toStack (s.getPair p.toStack + 1)).setPc (s.pc + 1)
  | .dec p => (s.setPair p.toStack (s.getPair p.toStack - 1)).setPc (s.pc + 1)
  | .ld dst src => (s.writeDst dst (s.readSrc src)).setPc (s.pc + loadWidth src)
  | .push q => (s.push16 (s.getPair q)).setPc (s.pc + 1)
  | .pop q => ((s.setSp (s.sp + 2)).setPair q (s.readWord s.sp)).setPc (s.pc + 1)
  | .jp t => s.setPc (if s.cond t then s.imm16 else s.pc + 3)
  | .call t =>
    if s.cond t then (s.push16 (s.pc + 3)).setPc (s.push16 (s.pc + 3)).imm16 else s.setPc (s.pc + 3)
  | .ret t => if s.cond t then (s.setSp (s.sp + 2)).setPc (s.readWord s.sp) else s.setPc (s.pc + 1)
  | .rlc _ => s

/-- Every instruction but the rotates completes, in every state, with the state its category leaves. -/
theorem exec_of_not_rotate {i : Instr} (h : isRotate i.form = false) (s : State) :
    exec i s = .next (s.afterForm i.form) := by
  rw [exec_eq_execForm, execForm]
  cases hf : i.form with
  | add r => rfl
  | inc p => rfl
  | dec p => rfl
  | ld dst src => rfl
  | push q => rfl
  | pop q => simp only [popRule, State.pop16_eq, State.afterForm, State.readWord]
  | jp t => simp only [jpRule, State.afterForm]; split <;> rfl
  | call t => simp only [callRule, State.afterForm]; split <;> rfl
  | ret t => simp only [retRule, State.pop16_eq, State.afterForm, State.readWord]; split <;> rfl
  | rlc t => simp [hf, isRotate] at h

/-- A rotate reports that it is not implemented, in every state (R190, R191). -/
theorem exec_of_rotate {i : Instr} (h : isRotate i.form = true) (s : State) : exec i s = raiseUnimplemented i s := by
  rw [exec_eq_execForm, execForm]
  cases hf : i.form with
  | rlc t => rfl
  | _ => simp [hf, isRotate] at h

/-- Inversion of an instruction that answers a next state. -/
theorem exec_next_iff {i : Instr} {s t : State} :
    exec i s = .next t ↔ isRotate i.form = false ∧ s.afterForm i.form = t := by
  cases h : isRotate i.form with
  | false => simp [exec_of_not_rotate h]
  | true => simp [exec_of_rotate h, raiseUnimplemented, raiseFailure]

/-- What the frames use: one named state for every way of completing. -/
theorem exec_next_eq {i : Instr} {s t : State} (h : exec i s = .next t) : t = s.afterForm i.form :=
  (exec_next_iff.mp h).2.symm

/-! ## What the shared operations leave unchanged -/

section
variable (s : State)

@[simp] theorem State.push16_sp (v : Word) : (s.push16 v).sp = s.sp - 2 := by rw [State.push16_eq]; rfl
@[simp] theorem State.push16_flagZ (v : Word) : (s.push16 v).flagZ = s.flagZ := rfl
@[simp] theorem State.push16_flagN (v : Word) : (s.push16 v).flagN = s.flagN := rfl
@[simp] theorem State.push16_flagH (v : Word) : (s.push16 v).flagH = s.flagH := rfl
@[simp] theorem State.push16_flagC (v : Word) : (s.push16 v).flagC = s.flagC := rfl
@[simp] theorem State.getReg_push16 (r : Reg8) (v : Word) : (s.push16 v).getReg r = s.getReg r := by cases r <;> rfl

theorem State.readByte_push16_of_not_mem {v a : Word} (h : a ∉ [s.sp - 1, s.sp - 2]) :
    (s.push16 v).readByte a = s.readByte a := by
  simp only [List.mem_cons, List.not_mem_nil, or_false, not_or] at h
  rw [State.readByte_push16, if_neg h.2, if_neg h.1]

/-- A pair write leaves the registers that are no half of the pair. -/
theorem State.getReg_setPair {q : StackPair} {r : Reg8} (h : writesReg (.pop q) r = false) (v : Word) :
    (s.setPair q v).getReg r = s.getReg r := by
  cases q <;> simp_all [writesReg, State.setPair, State.setFlagsByte]

@[simp] theorem State.setPair_toStack_flagZ (p : Pair16) (v : Word) : (s.setPair p.toStack v).flagZ = s.flagZ := by
  cases p <;> rfl
@[simp] theorem State.setPair_toStack_flagN (p : Pair16) (v : Word) : (s.setPair p.toStack v).flagN = s.flagN := by
  cases p <;> rfl
@[simp] theorem State.setPair_toStack_flagH (p : Pair16) (v : Word) : (s.setPair p.toStack v).flagH = s.flagH := by
  cases p <;> rfl
@[simp] theorem State.setPair_toStack_flagC (p : Pair16) (v : Word) : (s.setPair p.toStack v).flagC = s.flagC := by
  cases p <;> rfl

end

/-! ## The frames of the ten categories (R39) -/

section
variable (s : State)

theorem State.getReg_afterForm (f : Form) (r : Reg8) (h : writesReg f r = false) :
    (s.afterForm f).getReg r = s.getReg r := by
  cases f with
  | add r' =>
    have hr : r ≠ .a := by simpa [writesReg] using h
    simp [State.afterForm, hr]
  | inc p => simpa [State.afterForm] using s.getReg_setPair (by cases p <;> exact h) _
  | dec p => simpa [State.afterForm] using s.getReg_setPair (by cases p <;> exact h) _
  | ld dst src =>
    cases dst with
    | reg rd =>
      have hr : r ≠ rd := by simpa [writesReg] using h
      simp [State.afterForm, State.writeDst, hr]
    | atHL => simp [State.afterForm, State.writeDst]
  | push q => simp [State.afterForm]
  | pop q => simp [State.afterForm, State.getReg_setPair _ h]
  | jp t => simp [State.afterForm]
  | call t => simp only [State.afterForm]; split <;> simp
  | ret t => simp only [State.afterForm]; split <;> simp
  | rlc t => rfl

theorem State.flags_afterForm (f : Form) (h : writesFlags f = false) :
    (s.afterForm f).flagZ = s.flagZ ∧ (s.afterForm f).flagN = s.flagN ∧
      (s.afterForm f).flagH = s.flagH ∧ (s.afterForm f).flagC = s.flagC := by
  cases f with
  | add r => simp [writesFlags] at h
  | inc p => simp [State.afterForm]
  | dec p => simp [State.afterForm]
  | ld dst src => cases dst <;> simp [State.afterForm, State.writeDst]
  | push q => simp [State.afterForm]
  | pop q =>
    cases q with
    | bc | de | hl => exact ⟨rfl, rfl, rfl, rfl⟩
    | af => simp [writesFlags] at h
  | jp t => simp [State.afterForm]
  | call t => simp only [State.afterForm]; split <;> simp
  | ret t => simp only [State.afterForm]; split <;> simp
  | rlc t => exact ⟨rfl, rfl, rfl, rfl⟩

theorem State.sp_afterForm (f : Form) : (s.afterForm f).sp = spAfter s f := by
  cases f with
  | ld dst src => cases dst <;> simp [State.afterForm, State.writeDst, spAfter]
  | call t => simp only [State.afterForm, spAfter]; split <;> simp
  | ret t => simp only [State.afterForm, spAfter]; split <;> simp
  | _ => simp [State.afterForm, spAfter]

theorem State.readByte_afterForm (f : Form) {a : Word} (h : a ∉ storedTo s f) :
    (s.afterForm f).readByte a = s.readByte a := by
  cases f with
  | ld dst src =>
    cases dst with
    | reg rd => simp [State.afterForm, State.writeDst]
    | atHL =>
      have ha : a ≠ s.addrHL := by simpa [storedTo] using h
      simp [State.afterForm, State.writeDst, ha]
  | push q => simpa [State.afterForm] using s.readByte_push16_of_not_mem h
  | call t =>
    cases ht : s.cond t with
    | true =>
      have ha : a ∉ [s.sp - 1, s.sp - 2] := by simpa only [storedTo, ht, if_true] using h
      simpa [State.afterForm, ht] using s.readByte_push16_of_not_mem ha
    | false => simp [State.afterForm, ht]
  | ret t => simp only [State.afterForm]; split <;> simp
  | _ => simp [State.afterForm]

end

/-! ## The frame obligations -/

/-- Settles O22, category by category through the state that each leaves. -/
theorem onlyNamedRegistersChange : Obligations.OnlyNamedRegistersChange := by
  intro i s t h r hr
  rw [exec_next_eq h]
  exact s.getReg_afterForm i.form r hr

/-- Settles O23: the flags are written through ADD's flag write and AF's low byte alone. -/
theorem onlyAddAndPopAfWriteFlags : Obligations.OnlyAddAndPopAfWriteFlags := by
  intro i s t h hf
  rw [exec_next_eq h]
  exact s.flags_afterForm i.form hf

/-- Settles O24: sp is written by the two stack procedures alone (R32). -/
theorem onlyStackInstructionsMoveSp : Obligations.OnlyStackInstructionsMoveSp := by
  intro i s t h
  rw [exec_next_eq h]
  exact s.sp_afterForm i.form

/-- Settles O25: memory is written by a load to (HL) and by `push16` alone. -/
theorem onlyStoredBytesChange : Obligations.OnlyStoredBytesChange := by
  intro i s t h a ha
  rw [exec_next_eq h]
  exact s.readByte_afterForm i.form ha

end Sys2Proof.Machine
end

section
/-! SUPPORT. The Memory Bus (20_memory.md): words as little-endian byte pairs, stores seen by later reads, images as
the last write to each address, and the canonical form kept by every step. -/

namespace Sys2Proof.Machine

/-! ## Every step keeps the canonical form -/

/-- A load to (HL) and `push16` write through the bus, which keeps the form; no other category touches memory. -/
theorem State.wf_afterForm {s : State} (h : s.mem.wf) (f : Form) : (s.afterForm f).mem.wf := by
  cases f with
  | ld dst src => exact State.wf_writeDst h dst _
  | push q => exact State.wf_push16 h _
  | call t =>
    rw [State.afterForm]
    split
    · exact State.wf_push16 h _
    · exact h
  | ret t => rw [State.afterForm]; split <;> exact h
  | _ => simpa [State.afterForm] using h

/-- Settles O56: a step executes one instruction, and the state that each category leaves has its memory canonical. -/
theorem stepKeepsTheInvariant : Obligations.StepKeepsTheInvariant := by
  intro s t hs hstep
  obtain ⟨i, -, hexec⟩ := step_next hstep
  rw [exec_next_eq hexec]
  exact State.wf_afterForm hs i.form

/-! ## Words in memory (R54) -/

section
variable (s : State)

theorem State.readWord_toNat (a : Word) :
    (s.readWord a).toNat = (s.readByte (a + 1)).toNat * 256 + (s.readByte a).toNat :=
  joinBytes_toNat _ _

theorem State.imm16_eq_readWord : s.imm16 = s.readWord (s.pc + 1) := by
  rw [State.imm16, State.readWord, sp_add_two]

theorem State.pop16_fst : s.pop16.1 = s.readWord s.sp := by
  rw [State.pop16_eq, State.readWord]

theorem State.pop16_snd : s.pop16.2 = s.setSp (s.sp + 2) := by
  rw [State.pop16_eq]

/-- The word just pushed lies at the new sp, low byte first. -/
theorem State.readWord_push16 (v : Word) : (s.push16 v).readWord (s.sp - 2) = v := by
  rw [State.readWord, State.readByte_push16, State.readByte_push16, sp_sub_two_add_one,
    if_neg (sp_sub_one_ne_sub_two s.sp), if_pos rfl, if_pos rfl, joinBytes_hi8_lo8]

end

/-! ## Taken transfers (R170, R172) and the fetch of an unprefixed byte (R102) -/

section
variable {s : State} {cc : Test}

theorem exec_ofJp_taken (h : s.cond cc = true) : exec (Instr.ofJp cc) s = .next (s.setPc s.imm16) := by
  rw [exec_ofJp, jpRule, if_pos h]

theorem exec_ofCall_taken (h : s.cond cc = true) :
    exec (Instr.ofCall cc) s = .next ((s.push16 (s.pc + 3)).setPc (s.push16 (s.pc + 3)).imm16) := by
  simp only [exec_ofCall, callRule, if_pos h]

/-- A CALL whose push lies over its own operand reads back the return address as its target. -/
theorem State.imm16_push16_of_sp (h : s.sp = s.pc + 3) (v : Word) : (s.push16 v).imm16 = v := by
  have hoperand : s.pc + 1 = s.sp - 2 := by rw [h]; bv_omega
  calc (s.push16 v).imm16 = (s.push16 v).readWord (s.pc + 1) := (s.push16 v).imm16_eq_readWord
    _ = (s.push16 v).readWord (s.sp - 2) := by rw [hoperand]
    _ = v := s.readWord_push16 v

theorem State.fetch_of_readByte_pc {v : Byte} (hv : s.readByte s.pc = v) (h : v ≠ Config.prefixSentinel) :
    s.fetch = (v, false) := by
  subst hv
  rw [State.fetch, if_neg h]

end

/-! ## Loaded images (R61, R232) -/

/-- An image leaves at each address the last byte it lists for it, and what was there where it lists none. -/
theorem State.readByte_loadImage (s : State) (image : List (Word × Byte)) (a : Word) :
    (s.loadImage image).readByte a =
      ((image.reverse.find? fun x => x.1 = a).map Prod.snd).getD (s.readByte a) := by
  induction image generalizing s with
  | nil => rfl
  | cons x rest ih =>
    obtain ⟨b, v⟩ := x
    rw [State.loadImage, ih, List.reverse_cons, List.find?_append]
    cases hlater : rest.reverse.find? fun x => x.1 = a with
    | some y => rfl
    | none =>
      by_cases hb : b = a
      · simp [State.hostWrite, hb]
      · simp [State.hostWrite, hb, Ne.symm hb]

/-! ## The obligations about memory -/

/-- Settles O26. -/
theorem writeThenRead : Obligations.WriteThenRead :=
  fun s a b v => ⟨by rw [s.readByte_writeByte, if_pos rfl], fun hb => by rw [s.readByte_writeByte, if_neg hb], rfl⟩

/-- Settles O27: the a16 operand, the popped word and the pushed word are each a `readWord`. -/
theorem wordsAreLittleEndian : Obligations.WordsAreLittleEndian :=
  ⟨State.readWord_toNat, State.imm16_eq_readWord, State.pop16_fst,
    fun s v => by rw [s.push16_sp]; exact s.readWord_push16 v⟩

/-- Settles O28: every address is a `Word`, so the sums and differences at the ends wrap by themselves. -/
theorem addressesWrap : Obligations.AddressesWrap := by
  refine ⟨fun r s hpc => ?_, fun cc s hpc hcc => ?_, fun s v hsp => ?_, fun s hsp => ?_⟩
  · rw [exec_ofLdRegD8, loadRule, State.readSrc, State.imm8, loadWidth, hpc]
    rfl
  · refine ⟨_, exec_ofJp_taken hcc, ?_⟩
    rw [State.setPc_pc, State.imm16_eq_readWord, State.readWord_toNat, hpc]
    rfl
  · simp only [State.push16_sp, State.readByte_push16, hsp]
    exact ⟨rfl, hi8_toNat v, lo8_toNat v⟩
  · rw [State.pop16_snd, State.pop16_fst, State.readWord_toNat, State.setSp_sp, hsp]
    exact ⟨rfl, rfl⟩

/-- Settles O30: both reads come after the store, the first at the next pc, the second over CALL's own operand. -/
theorem storesAreSeenByLaterFetches : Obligations.StoresAreSeenByLaterFetches := by
  refine ⟨fun r s hHL hr => ?_, fun cc s hcc hsp => ?_⟩
  · refine ⟨_, exec_ofLdAtHLReg r s, State.fetch_of_readByte_pc ?_ hr⟩
    simp [State.writeDst, State.readSrc, loadWidth, hHL]
  · exact ⟨_, exec_ofCall_taken hcc, State.imm16_push16_of_sp hsp _⟩

/-- Settles O51: a created state with nothing listed reads 0x00 where the image lists no byte. -/
theorem loadedImageReadsBack : Obligations.LoadedImageReadsBack :=
  fun r image a => (State.create r []).readByte_loadImage image a

end Sys2Proof.Machine
end

section
/-! SUPPORT. Encoding and the decoder (30_encoding.md): the constructors as the well-formed tagged values, lengths, the
bytes with no entry, and an instruction stored at pc as what the next step executes. -/

namespace Sys2Proof.Machine

open Sys2Proof.Claims

/-! ## The constructors are the well-formed tagged values (R76) -/

theorem wellFormed_form (i : Instr) : i.form.wellFormed = true := by cases i <;> rfl

/-- Every tagged value but LD(HLI, HLI) has a constructor. -/
theorem exists_form_eq {f : Form} (h : f.wellFormed = true) : ∃ i : Instr, i.form = f := by
  cases f with
  | add r => exact ⟨_, form_ofAdd r⟩
  | inc p => exact ⟨_, form_ofInc p⟩
  | dec p => exact ⟨_, form_ofDec p⟩
  | ld dst src =>
    cases dst with
    | reg rd =>
      cases src with
      | reg rs => exact ⟨_, form_ofLdRegReg rd rs⟩
      | atHL => exact ⟨_, form_ofLdRegAtHL rd⟩
      | d8 => exact ⟨_, form_ofLdRegD8 rd⟩
    | atHL =>
      cases src with
      | reg rs => exact ⟨_, form_ofLdAtHLReg rs⟩
      | atHL => exact nomatch h
      | d8 => exact ⟨.ldAtHLD8, rfl⟩
  | push q => exact ⟨_, form_ofPush q⟩
  | pop q => exact ⟨_, form_ofPop q⟩
  | jp t => exact ⟨_, form_ofJp t⟩
  | call t => exact ⟨_, form_ofCall t⟩
  | ret t => exact ⟨_, form_ofRet t⟩
  | rlc t => exact ⟨_, form_ofRlc t⟩

/-- The tagged value fixes the opcode byte and its table, and so the entry found there. -/
theorem form_injective {i j : Instr} (h : i.form = j.form) : i = j := by
  have hentry : some i = some j :=
    calc some i = decode i.form.opcode i.form.isPrefixed := (decode_opcode i).symm
      _ = decode j.form.opcode j.form.isPrefixed := by rw [h]
      _ = some j := decode_opcode j
  exact Option.some.inj hentry

/-- Settles O4. -/
theorem constructorsAreTheWellFormedForms : Obligations.ConstructorsAreTheWellFormedForms :=
  ⟨fun _ => ⟨exists_form_eq, fun ⟨i, hi⟩ => hi ▸ wellFormed_form i⟩, fun _ _ => form_injective⟩

/-! ## Opcode parts and lengths (R70, R71) -/

section
variable {i : Instr}

theorem isPrefixed_eq_isRotate (i : Instr) : i.isPrefixed = isRotate i.form := by
  rw [Instr.isPrefixed]
  cases i.form <;> rfl

theorem encode_of_prefixed (h : i.isPrefixed = true) : encode i = [Config.prefixSentinel, i.opcode] := by
  rw [encode, if_pos h]

theorem encode_of_unprefixed (h : i.isPrefixed = false) : encode i = [i.opcode] := by
  rw [encode, if_neg (by simp [h])]

theorem length_encode (i : Instr) : (encode i).length = if isRotate i.form then 2 else 1 := by
  rw [← isPrefixed_eq_isRotate]
  cases h : i.isPrefixed with
  | true => rw [encode_of_prefixed h]; rfl
  | false => rw [encode_of_unprefixed h]; rfl

/-- Only unprefixed instructions have operand bytes. -/
theorem isPrefixed_of_operandLength_pos (h : 0 < i.operandLength) : i.isPrefixed = false := by
  rw [Instr.operandLength] at h
  rw [Instr.isPrefixed]
  cases hf : i.form with
  | rlc t => simp [hf, Form.operandLength] at h
  | _ => rfl

end

/-- The length by category is that of the opcode part and of the operands. -/
theorem lengthTable_eq (f : Form) : lengthTable f = (if isRotate f then 2 else 1) + f.operandLength := by
  cases f with
  | ld dst src => cases src <;> rfl
  | _ => rfl

theorem operandLength_le_two (i : Instr) : i.operandLength ≤ 2 := by
  rw [Instr.operandLength]
  cases i.form with
  | ld dst src => cases src <;> simp [Form.operandLength]
  | _ => simp [Form.operandLength]

/-- Settles O3. -/
theorem lengthsByCategory : Obligations.LengthsByCategory :=
  fun i => ⟨by rw [Instr.length, length_encode, lengthTable_eq, Instr.operandLength], length_encode i⟩

/-! ## Bytes stored one after the other (20_memory.md R55) -/

/-- Every read after storing bytes from `a` on: the byte as far into the list as the address lies past `a`, wrapping,
and what was there where the list has ended. -/
theorem State.readByte_writeBytes (s : State) (a b : Word) {bytes : List Byte} (h : bytes.length ≤ 65536) :
    (s.writeBytes a bytes).readByte b = bytes.getD (b - a).toNat (s.readByte b) := by
  induction bytes generalizing s a with
  | nil => rfl
  | cons v rest ih =>
    rw [List.length_cons] at h
    rw [State.writeBytes, ih _ _ (by omega), State.readByte_writeByte]
    by_cases hb : b = a
    · have hlast : rest.length ≤ (b - (a + 1)).toNat := by bv_omega
      rw [List.getD_eq_default _ _ hlast, if_pos hb, hb, BitVec.sub_self]
      rfl
    · have hnext : (b - a).toNat = (b - (a + 1)).toNat + 1 := by bv_omega
      rw [if_neg hb, hnext, List.getD_cons_succ]

section
variable (s : State) (a : Word) (v w x : Byte) {rest : List Byte}

theorem State.readByte_writeBytes_first (h : rest.length < 65536) :
    (s.writeBytes a (v :: rest)).readByte a = v := by
  rw [State.readByte_writeBytes _ _ _ (by simpa using h), BitVec.sub_self]
  rfl

/-- All but the first byte are stored from the next address on, so the second byte is the first of those. -/
theorem State.readByte_writeBytes_second (h : rest.length < 65536) :
    (s.writeBytes a (v :: w :: rest)).readByte (a + 1) = w :=
  (s.writeByte a v).readByte_writeBytes_first (a + 1) w h

theorem State.readByte_writeBytes_third (h : rest.length < 65536) :
    (s.writeBytes a (v :: w :: x :: rest)).readByte (a + 2) = x := by
  rw [← sp_add_two]
  exact (s.writeByte a v).readByte_writeBytes_second (a + 1) w x h

end

/-! ## An instruction stored at pc (40_step_driver.md R101, R102) -/

theorem step_of_decode_some {s : State} {b : Byte} {p : Bool} {i : Instr} (hf : s.fetch = (b, p))
    (hd : decode b p = some i) : step s = exec i s := by
  rw [step, hf, hd]

theorem step_of_decode_none {s : State} {b : Byte} {p : Bool} (hf : s.fetch = (b, p)) (hd : decode b p = none) :
    step s = .fault (.unknownOpcode b p) := by
  rw [step, hf, hd]
  rfl

theorem State.fetch_of_sentinel {s : State} {v : Byte} (h : s.readByte s.pc = Config.prefixSentinel)
    (hv : s.readByte (s.pc + 1) = v) : s.fetch = (v, true) := by
  rw [State.fetch, if_pos h, hv]

/-- With an instruction's bytes stored at pc, whatever follows them, the fetch finds its opcode byte and its table. -/
theorem State.fetch_writeBytes_encodeWith (s : State) (i : Instr) {ops : List Byte} (h : ops.length < 65535) :
    (s.writeBytes s.pc (encodeWith i ops)).fetch = (i.opcode, i.isPrefixed) := by
  have hops : ops.length < 65536 := by omega
  cases hp : i.isPrefixed with
  | true =>
    rw [encodeWith, encode_of_prefixed hp]
    refine State.fetch_of_sentinel ?_ ?_
    · rw [State.writeBytes_pc]
      exact s.readByte_writeBytes_first s.pc _ (Nat.succ_lt_succ h)
    · rw [State.writeBytes_pc]
      exact s.readByte_writeBytes_second s.pc _ i.opcode hops
  | false =>
    rw [encodeWith, encode_of_unprefixed hp]
    refine State.fetch_of_readByte_pc ?_ (opcode_ne_sentinel i)
    rw [State.writeBytes_pc]
    exact s.readByte_writeBytes_first s.pc i.opcode hops

section
variable (s : State) {i : Instr}

theorem State.imm8_writeBytes_encodeWith (h : i.isPrefixed = false) (v : Byte) :
    (s.writeBytes s.pc (encodeWith i [v])).imm8 = v := by
  rw [State.imm8, State.writeBytes_pc, encodeWith, encode_of_unprefixed h]
  exact s.readByte_writeBytes_second s.pc i.opcode v (by simp)

theorem State.imm16_writeBytes_encodeWith (h : i.isPrefixed = false) (lo hi : Byte) :
    (s.writeBytes s.pc (encodeWith i [lo, hi])).imm16 = joinBytes hi lo := by
  rw [State.imm16, State.writeBytes_pc, encodeWith, encode_of_unprefixed h]
  exact congrArg₂ joinBytes (s.readByte_writeBytes_third s.pc i.opcode lo hi (by simp))
    (s.readByte_writeBytes_second s.pc i.opcode lo (by simp))

end

theorem joinBytes_eq_ofNat (hi lo : Byte) : joinBytes hi lo = BitVec.ofNat 16 (hi.toNat * 256 + lo.toNat) := by
  rw [← joinBytes_toNat, BitVec.ofNat_toNat, BitVec.setWidth_eq]

/-- Settles O6: the fetch finds the opcode byte that was stored, and an instruction with operand bytes is unprefixed,
so they lie right after that byte. -/
theorem storedInstructionRuns : Obligations.StoredInstructionRuns := by
  intro s i ops hops
  have hshort : ops.length < 65535 := by have := operandLength_le_two i; omega
  refine ⟨step_of_decode_some (s.fetch_writeBytes_encodeWith i hshort) (decode_opcode i), fun v hv => ?_,
    fun lo hi hlohi => ?_⟩
  · subst hv
    exact s.imm8_writeBytes_encodeWith (isPrefixed_of_operandLength_pos (by simp [← hops])) v
  · subst hlohi
    rw [s.imm16_writeBytes_encodeWith (isPrefixed_of_operandLength_pos (by simp [← hops])), joinBytes_eq_ofNat]

/-! ## The entries of the two tables (R78-R81) -/

/-- Settles O1: each word is the opcode byte that the encoder, which is apart from the tables, gives its instruction. -/
theorem specWordsDecode : Obligations.SpecWordsDecode :=
  ⟨decode_opcode .addAC, decode_opcode .incHL, decode_opcode .decDE, decode_opcode .ldAB, decode_opcode .ldHAtHL,
    decode_opcode .ldAtHLL, decode_opcode .ldED8, decode_opcode .ldAtHLD8, decode_opcode .pushAF, decode_opcode .popDE,
    decode_opcode .jpNC, decode_opcode .jp, decode_opcode .callC, decode_opcode .call, decode_opcode .retZ,
    decode_opcode .ret, decode_opcode .rlcAtHL⟩

/-- The primary table has no entry exactly at the listed bytes and at the sentinel, byte by byte. -/
theorem decode_primary_eq_none_iff :
    ∀ b : Byte, decode b false = none ↔ b.toNat ∈ unmappedPrimary ∨ b = 0xCB := by
  decide +kernel

/-- The prefixed table is eight entries, then none. -/
theorem decode_prefixed_eq_none_iff : ∀ b : Byte, decode b true = none ↔ 8 ≤ b.toNat := by
  decide +kernel

theorem ne_sentinel_of_mem_unmappedPrimary {b : Byte} (h : b.toNat ∈ unmappedPrimary) :
    b ≠ Config.prefixSentinel := by
  rintro rfl
  exact absurd h (by decide)

/-- Settles O2: the fetch hands the byte and the mark to decode, which has no entry for them. -/
theorem unmappedBytesFail : Obligations.UnmappedBytesFail := by
  refine ⟨rfl, decode_primary_eq_none_iff, decode_prefixed_eq_none_iff, fun s h => ?_, fun s hcb h => ?_⟩
  · exact step_of_decode_none (State.fetch_of_readByte_pc rfl (ne_sentinel_of_mem_unmappedPrimary h))
      ((decode_primary_eq_none_iff _).mpr (.inl h))
  · exact step_of_decode_none (State.fetch_of_sentinel hcb rfl) ((decode_prefixed_eq_none_iff _).mpr h)

end Sys2Proof.Machine
end

section
/-! SUPPORT. The step driver (40_step_driver.md): the instruction a step runs, its three outcomes with their codes, and
next_pc of every instruction. -/

namespace Sys2Proof.Machine

open Sys2Proof.Claims

/-! ## What a step runs (R101-R105) -/

/-- The fetch is the key of rule R102: the byte after the sentinel with the mark, else the first byte without it. -/
theorem State.fetch_eq_of_key {s : State} {b : Byte} {p : Bool}
    (h : if s.readByte s.pc = 0xCB then b = s.readByte (s.pc + 1) ∧ p = true
      else b = s.readByte s.pc ∧ p = false) : s.fetch = (b, p) := by
  split at h
  · next hcb =>
    obtain ⟨hb, rfl⟩ := h
    exact State.fetch_of_sentinel hcb hb.symm
  · next hcb =>
    obtain ⟨rfl, rfl⟩ := h
    exact State.fetch_of_readByte_pc rfl hcb

/-- A rotate reports the byte and the mark it was decoded from, since these are its own opcode and table. -/
theorem exec_rotate_of_decode_some {b : Byte} {p : Bool} {i : Instr} (hd : decode b p = some i)
    (h : isRotate i.form = true) (s : State) : exec i s = .fault (.unimplementedInstruction b p i) := by
  obtain ⟨rfl, rfl⟩ := decode_some hd
  exact exec_of_rotate h s

/-- Settles O8. -/
theorem stepRunsTheDecodedInstruction : Obligations.StepRunsTheDecodedInstruction := by
  intro s b p hkey
  have hfetch : s.fetch = (b, p) := State.fetch_eq_of_key hkey
  exact ⟨step_of_decode_none hfetch, fun i => step_of_decode_some hfetch,
    fun i hd hrot => (step_of_decode_some hfetch hd).trans (exec_rotate_of_decode_some hd hrot s)⟩

/-! ## The three outcomes and their codes (R100, R200) -/

theorem exec_ne_refused (i : Instr) (s : State) (r : Refusal) : exec i s ≠ .refused r := by
  cases h : isRotate i.form with
  | false => simp [exec_of_not_rotate h]
  | true => simp [exec_of_rotate h, raiseUnimplemented, raiseFailure]

theorem step_ne_refused (s : State) (r : Refusal) : step s ≠ .refused r := by
  cases hd : decode s.fetch.1 s.fetch.2 with
  | none => simp [step_of_decode_none rfl hd]
  | some i => rw [step_of_decode_some rfl hd]; exact exec_ne_refused i s r

section
variable (r : Result)

theorem code_reportOf_eq_zero_iff : (reportOf r).code = some 0 ↔ ∃ t, r = .next t := by
  rcases r with t | (_ | _) | _ <;> simp [reportOf, Report.code]

theorem code_reportOf_eq_one_iff : (reportOf r).code = some 1 ↔ ∃ b p, r = .fault (.unknownOpcode b p) := by
  rcases r with t | (_ | _) | _ <;> simp [reportOf, Report.code]

theorem code_reportOf_eq_two_iff :
    (reportOf r).code = some 2 ↔ ∃ b p i, r = .fault (.unimplementedInstruction b p i) := by
  rcases r with t | (_ | _) | _ <;> simp [reportOf, Report.code]

theorem code_reportOf_eq_none_iff : (reportOf r).code = none ↔ ∃ x, r = .refused x := by
  rcases r with t | (_ | _) | _ <;> simp [reportOf, Report.code]

end

/-- Settles O12: a code tells which outcome it is, and only a refusal, which no step answers, has none. -/
theorem outcomeCodes : Obligations.OutcomeCodes := by
  refine fun s => ⟨code_reportOf_eq_zero_iff _, code_reportOf_eq_one_iff _, code_reportOf_eq_two_iff _, fun hnone => ?_⟩
  obtain ⟨x, hx⟩ := (code_reportOf_eq_none_iff (step s)).mp hnone
  exact step_ne_refused s x hx

/-! ## next_pc (R109) -/

section
variable (s : State)

@[simp] theorem State.push16_pc (v : Word) : (s.push16 v).pc = s.pc := rfl

theorem State.readWord_eq_wordAt (a : Word) : s.readWord a = wordAt s a := joinBytes_eq_ofNat _ _

theorem State.imm16_eq_wordAt : s.imm16 = wordAt s (s.pc + 1) := by
  rw [State.imm16_eq_readWord, State.readWord_eq_wordAt]

/-- Each category commits the next_pc of rule R109's table; a rotate, which commits nothing, is in it with pc. -/
theorem State.pc_afterForm (f : Form) : (s.afterForm f).pc = nextPc s f := by
  cases f with
  | ld dst src => cases src <;> rfl
  | jp t => simp only [State.afterForm, nextPc, State.setPc_pc, State.imm16_eq_wordAt]
  | call t =>
    simp only [State.afterForm, nextPc, State.imm16_eq_wordAt, State.push16_pc]
    split <;> rfl
  | ret t =>
    simp only [State.afterForm, nextPc, State.readWord_eq_wordAt]
    split <;> rfl
  | _ => rfl

/-- An outcome that is not Ok leaves the state from before (60_exceptions.md rule R201). -/
theorem stateAfter_of_reportOf_ne_ok {r : Result} (h : reportOf r ≠ .ok) : stateAfter s r = s := by
  cases r with
  | next t => exact absurd rfl h
  | fault f => rfl
  | refused x => rfl

theorem State.request_snd_of_fst_ne_ok (h : s.request.1 ≠ .ok) : s.request.2 = s :=
  stateAfter_of_reportOf_ne_ok s h

end

/-- Settles O14. -/
theorem nextPcByCategory : Obligations.NextPcByCategory :=
  ⟨fun i s h => ⟨_, exec_of_not_rotate h s, s.pc_afterForm i.form⟩,
    fun s h => by rw [s.request_snd_of_fst_ne_ok h]⟩

/-! ## Sequential execution and control transfers (R110) -/

/-- Outside the control transfers and the rotates, next_pc is pc and the length. -/
theorem nextPc_eq_add_lengthTable (s : State) {f : Form} (hrot : isRotate f = false) (htr : isTransfer f = false) :
    nextPc s f = s.pc + BitVec.ofNat 16 (lengthTable f) := by
  cases f with
  | ld dst src => cases src <;> rfl
  | jp t | call t | ret t => exact nomatch htr
  | rlc t => exact nomatch hrot
  | _ => rfl

section
variable {s : State} {cc : Test}

theorem exec_ofJp_untaken (h : s.cond cc = false) : exec (Instr.ofJp cc) s = .next (s.setPc (s.pc + 3)) := by
  rw [exec_ofJp, jpRule, h]
  rfl

theorem exec_ofCall_untaken (h : s.cond cc = false) : exec (Instr.ofCall cc) s = .next (s.setPc (s.pc + 3)) := by
  rw [exec_ofCall, callRule, h]
  rfl

theorem exec_ofRet_untaken (h : s.cond cc = false) : exec (Instr.ofRet cc) s = .next (s.setPc (s.pc + 1)) := by
  rw [exec_ofRet, retRule, h]
  rfl

theorem exec_ofRet_taken (h : s.cond cc = true) :
    exec (Instr.ofRet cc) s = .next ((s.setSp (s.sp + 2)).setPc (s.readWord s.sp)) := by
  simp only [exec_ofRet, retRule, if_pos h, State.pop16_fst, State.pop16_snd]

end

/-- Settles O15: the first clause is the table of next_pc with the lengths, the others the two outcomes of each
transfer. The commit of pc leaves memory, so a CALL's target reads the same after it. -/
theorem sequentialExecution : Obligations.SequentialExecution := by
  refine ⟨fun i s hrot htr => ⟨_, exec_of_not_rotate hrot s, ?_⟩,
    fun cc s h => ⟨exec_ofJp_untaken h, exec_ofCall_untaken h, exec_ofRet_untaken h⟩,
    fun cc s h => ⟨⟨_, exec_ofJp_taken h, s.imm16_eq_wordAt⟩,
      ⟨_, exec_ofCall_taken h, (s.push16 (s.pc + 3)).imm16_eq_wordAt⟩,
      ⟨_, exec_ofRet_taken h, s.readWord_eq_wordAt s.sp⟩⟩⟩
  rw [s.pc_afterForm, nextPc_eq_add_lengthTable s hrot htr, (lengthsByCategory i).1]

end Sys2Proof.Machine
end

section
/-! SUPPORT. ADD A,r (41_arithmetic.md rules R120, R121): the opcode and the length that a descriptor gives, the flags
in plain arithmetic, and the sum with its two carries. -/

namespace Sys2Proof.Machine

open Sys2Proof.Claims

/-! ## Encoding by descriptor (R70, R71) -/

section
variable {i : Instr} {f : Form}

theorem decode_of_form_eq (h : i.form = f) : decode f.opcode f.isPrefixed = some i := by
  subst h
  exact decode_opcode i

theorem length_of_form_eq (h : i.form = f) : i.length = lengthTable f := by
  rw [(lengthsByCategory i).1, h]

end

/-! ## The flags of ADD as arithmetic (R120) -/

theorem zeroFlag_ofNat (n : Nat) : zeroFlag (BitVec.ofNat 8 n) = decide (n % 256 = 0) := by
  rw [zeroFlag, beq_eq_decide, decide_eq_decide, ← BitVec.toNat_inj, BitVec.toNat_ofNat]
  rfl

theorem halfCarryFlag_eq (a b : Byte) : halfCarryFlag a b = decide (0x0F < a.toNat % 16 + b.toNat % 16) := by
  rw [halfCarryFlag, and_0F_toNat, and_0F_toNat]

/-- ADD A,r in plain arithmetic, for every register and state. -/
theorem exec_ofAdd_eq_next (r : Reg8) (s : State) :
    exec (Instr.ofAdd r) s = .next { s with
      a := BitVec.ofNat 8 (s.a.toNat + (s.getReg r).toNat)
      flagZ := decide ((s.a.toNat + (s.getReg r).toNat) % 256 = 0)
      flagN := false
      flagH := decide (0x0F < s.a.toNat % 16 + (s.getReg r).toNat % 16)
      flagC := decide (0xFF < s.a.toNat + (s.getReg r).toNat)
      pc := s.pc + 1 } := by
  simp only [exec_ofAdd, addRule, zeroFlag_ofNat, halfCarryFlag_eq]
  rfl

/-! ## Sums with their carries (R121) -/

/-- A sum of two digits below `k + 1` is its last digit and one carry, out when the sum is past `k`. -/
theorem eq_mod_add_mul_carry {k n : Nat} (h : n < 2 * (k + 1)) :
    n = n % (k + 1) + (k + 1) * (decide (k < n)).toNat := by
  by_cases hk : k < n
  · have hmod : n % (k + 1) = n - (k + 1) := by
      rw [Nat.mod_eq_sub_mod hk, Nat.mod_eq_of_lt (by omega)]
    simp only [hk, decide_true, Bool.toNat_true]
    omega
  · simp [hk, Nat.mod_eq_of_lt (show n < k + 1 by omega)]

/-- The low nibble of an 8-bit sum is that of the low nibbles' sum. -/
theorem ofNat_add_toNat_mod_16 (a b : Nat) :
    (BitVec.ofNat 8 (a + b)).toNat % 16 = (a % 16 + b % 16) % 16 := by
  rw [BitVec.toNat_ofNat]
  omega

/-! ## The obligations about ADD -/

/-- Settles O31. -/
theorem addRegisterToAccumulator : Obligations.AddRegisterToAccumulator :=
  ⟨fun r s => ⟨decode_of_form_eq (form_ofAdd r), length_of_form_eq (form_ofAdd r), exec_ofAdd_eq_next r s⟩, rfl⟩

/-- Settles O32: one carry law, for the bytes with C and for their low nibbles with H. -/
theorem addKeepsTheExactSum : Obligations.AddKeepsTheExactSum := by
  intro r s
  have ha := s.a.isLt
  have hb := (s.getReg r).isLt
  refine ⟨_, exec_ofAdd_eq_next r s, ?_, ?_, ?_, rfl⟩
  · exact eq_mod_add_mul_carry (k := 255) (by omega)
  · rw [ofNat_add_toNat_mod_16]
    exact eq_mod_add_mul_carry (k := 15) (by omega)
  · rw [decide_eq_true_iff, ← BitVec.toNat_inj, BitVec.toNat_ofNat]
    rfl

end Sys2Proof.Machine
end

section
/-! SUPPORT. INC rr and DEC rr (42_incdec.md rules R130, R131): the pair's next and previous value in plain
arithmetic. -/

namespace Sys2Proof.Machine

open Sys2Proof.Claims

section
variable (p : Pair16) (s : State)

/-! ## The pair's next and previous value -/

theorem State.getPair_toStack_add_one_toNat :
    (s.getPair p.toStack + 1).toNat = (pairValue s p + 1) % 65536 := by
  rw [BitVec.toNat_add, State.getPair_toStack_toNat]
  rfl

/-- Subtracting one is adding 65535, modulo 65536. -/
theorem State.getPair_toStack_sub_one_toNat :
    (s.getPair p.toStack - 1).toNat = (pairValue s p + 65535) % 65536 := by
  rw [BitVec.toNat_sub, State.getPair_toStack_toNat, Nat.add_comm]
  rfl

/-! ## The whole effect, for every pair and state -/

theorem exec_ofInc_eq_next :
    exec (Instr.ofInc p) s = .next { withPair s p ((pairValue s p + 1) % 65536) with pc := s.pc + 1 } := by
  rw [exec_ofInc, incRule, State.setPair_toStack_eq, State.getPair_toStack_add_one_toNat]
  rfl

theorem exec_ofDec_eq_next :
    exec (Instr.ofDec p) s = .next { withPair s p ((pairValue s p + 65535) % 65536) with pc := s.pc + 1 } := by
  rw [exec_ofDec, decRule, State.setPair_toStack_eq, State.getPair_toStack_sub_one_toNat]
  rfl

end

/-! ## The obligations about INC and DEC -/

/-- Settles O33. -/
theorem incrementPair : Obligations.IncrementPair :=
  ⟨fun p s => ⟨decode_of_form_eq (form_ofInc p), length_of_form_eq (form_ofInc p), exec_ofInc_eq_next p s⟩, rfl⟩

/-- Settles O34. -/
theorem decrementPair : Obligations.DecrementPair :=
  ⟨fun p s => ⟨decode_of_form_eq (form_ofDec p), length_of_form_eq (form_ofDec p), exec_ofDec_eq_next p s⟩, rfl⟩

end Sys2Proof.Machine
end

section
/-! SUPPORT. The byte loads (43_load.md rules R140-R145): the address in HL in plain arithmetic, and the whole effect of
a load for every destination and source. -/

namespace Sys2Proof.Machine

open Sys2Proof.Claims

theorem State.addrHL_eq_addressHL (s : State) : s.addrHL = addressHL s := joinBytes_eq_ofNat s.h s.l

/-- The source is read in the state before the write, so an address or an immediate that the load itself overwrites
is the old one. -/
theorem exec_of_form_ld {i : Instr} {dst : LoadDst} {src : LoadSrc} (h : i.form = .ld dst src) (s : State) :
    exec i s = .next { s.writeDst dst (s.readSrc src) with pc := s.pc + loadWidth src } := by
  rw [exec_of_not_rotate (by rw [h]; rfl), h]
  rfl

/-! ## The obligations about the byte loads -/

/-- Settles O35: nothing in the argument tells r = r' from the other forms. -/
theorem loadRegisterFromRegister : Obligations.LoadRegisterFromRegister := fun rd rs s =>
  have hform := form_ofLdRegReg rd rs
  ⟨decode_of_form_eq hform, length_of_form_eq hform, exec_of_form_ld hform s⟩

/-- Settles O36: the address is that of the state before the write, for H and L as for the others. -/
theorem loadRegisterFromHL : Obligations.LoadRegisterFromHL := fun rd s =>
  have hform := form_ofLdRegAtHL rd
  ⟨decode_of_form_eq hform, length_of_form_eq hform, s.addrHL_eq_addressHL ▸ exec_of_form_ld hform s⟩

/-- Settles O37: the opcode's destination field 110 is the code of (HL) (R72). -/
theorem storeRegisterAtHL : Obligations.StoreRegisterAtHL := fun r s =>
  have hform := form_ofLdAtHLReg r
  ⟨decode_of_form_eq hform, length_of_form_eq hform, s.addrHL_eq_addressHL ▸ exec_of_form_ld hform s⟩

/-- Settles O38: pc + 1 and pc + 2 are sums of words, so they wrap at the end of memory by themselves. -/
theorem loadRegisterImmediate : Obligations.LoadRegisterImmediate := fun rd s =>
  have hform := form_ofLdRegD8 rd
  ⟨decode_of_form_eq hform, length_of_form_eq hform, exec_of_form_ld hform s⟩

/-- Settles O39: the immediate is read before the store, also where HL is its own address. -/
theorem storeImmediateAtHL : Obligations.StoreImmediateAtHL := fun s =>
  have hform : Instr.ldAtHLD8.form = .ld .atHL .d8 := rfl
  ⟨decode_of_form_eq hform, length_of_form_eq hform, s.addrHL_eq_addressHL ▸ exec_of_form_ld hform s⟩

end Sys2Proof.Machine
end

section
/-! SUPPORT. The stack (44_stack.md rules R160-R165): a pair as the two bytes that PUSH stores, the whole effect of PUSH
and POP for every pair and state, and a pop right after a push. -/

namespace Sys2Proof.Machine

open Sys2Proof.Claims

theorem code_toStack (p : Pair16) : p.toStack.code = p.code := by cases p <;> rfl

section
variable (s : State)

/-! ## The bytes of a pair (R28, R162) -/

theorem State.hi8_getPair (q : StackPair) : hi8 (s.getPair q) = pushedHigh s q := by
  cases q <;> exact hi8_joinBytes _ _

theorem State.flagsByte_eq_ofNat : s.flagsByte = BitVec.ofNat 8 (flagsValue s) := by
  rw [← State.flagsByte_toNat, BitVec.ofNat_toNat, BitVec.setWidth_eq]

theorem State.lo8_getPair (q : StackPair) : lo8 (s.getPair q) = pushedLow s q := by
  cases q with
  | af => exact (lo8_joinBytes _ _).trans s.flagsByte_eq_ofNat
  | _ => exact lo8_joinBytes _ _

/-- AF from a word given by its two bytes. -/
theorem State.setPair_af_joinBytes (hi lo : Byte) :
    s.setPair .af (joinBytes hi lo) = { withFlags s lo.toNat with a := hi } := by
  rw [State.setPair, hi8_joinBytes, lo8_joinBytes, State.setFlagsByte_eq]
  rfl

/-- Writing a pair with what it reads as changes nothing. -/
@[simp] theorem State.setPair_getPair (q : StackPair) : s.setPair q (s.getPair q) = s := by
  cases q with
  | af => rw [State.getPair, State.setPair_af_joinBytes, State.flagsByte_toNat, withFlags_flagsValue]
  | _ => simp only [State.setPair, State.getPair, hi8_joinBytes, lo8_joinBytes]; rfl

/-- A pair write commutes with a write of pc and memory. -/
theorem State.setPair_with_pc_mem (q : StackPair) (v pc : Word) (mem : Memory) :
    { s.setPair q v with pc := pc, mem := mem } = { s with pc := pc, mem := mem }.setPair q v := by
  cases q <;> rfl

/-! ## The procedures, alone and one after the other (R160, R161, R165) -/

/-- `push16` moves sp and writes memory, and nothing else. -/
theorem State.push16_frame (v : Word) : { s.push16 v with sp := s.sp, mem := s.mem } = s := rfl

theorem State.pop16_push16_fst (v : Word) : (s.push16 v).pop16.1 = v := by
  rw [State.pop16_fst, State.push16_sp, State.readWord_push16]

/-- Push and then pop leave no trace but the two bytes in memory. -/
theorem State.pop16_push16_snd (v : Word) : (s.push16 v).pop16.2 = { s with mem := (s.push16 v).mem } := by
  rw [State.pop16_snd, State.push16_sp, sp_sub_two_add_two]
  rfl

theorem State.pop16_setPc (pc : Word) : (s.setPc pc).pop16 = (s.pop16.1, s.pop16.2.setPc pc) := rfl

/-! ## The whole effect of PUSH and POP, for every pair and state -/

theorem exec_ofPush_eq_next (q : StackPair) :
    exec (Instr.ofPush q) s = .next { withPushed s (pushedHigh s q) (pushedLow s q) with pc := s.pc + 1 } := by
  rw [exec_ofPush, pushRule, State.push16_eq, State.hi8_getPair, State.lo8_getPair]
  rfl

theorem exec_ofPop_eq_next (q : StackPair) :
    exec (Instr.ofPop q) s = .next (((s.setSp (s.sp + 2)).setPair q (s.readWord s.sp)).setPc (s.pc + 1)) := by
  rw [exec_of_not_rotate (by rw [form_ofPop]; rfl), form_ofPop, State.afterForm]

theorem exec_ofPop_toStack_eq_next (p : Pair16) :
    exec (Instr.ofPop p.toStack) s =
      .next { withPair s p (wordAt s s.sp).toNat with sp := s.sp + 2, pc := s.pc + 1 } := by
  rw [exec_ofPop_eq_next, State.setPair_toStack_eq, State.readWord_eq_wordAt]
  cases p <;> rfl

theorem exec_popAF_eq_next :
    exec .popAF s = .next { withFlags s (s.readByte s.sp).toNat with
      a := s.readByte (s.sp + 1), sp := s.sp + 2, pc := s.pc + 1 } := by
  refine (exec_ofPop_eq_next s .af).trans ?_
  rw [State.readWord, State.setPair_af_joinBytes]
  rfl

end

/-! ## The obligations about the stack -/

/-- Settles O40. -/
theorem pushProcedure : Obligations.PushProcedure := by
  intro s v
  refine ⟨s.push16_sp v, ?_, ?_, fun a h1 h2 => ?_, s.push16_frame v⟩
  · rw [State.readByte_push16, if_neg (sp_sub_one_ne_sub_two s.sp), if_pos rfl, hi8_toNat]
  · rw [State.readByte_push16, if_pos rfl, lo8_toNat]
  · rw [State.readByte_push16, if_neg h2, if_neg h1]

/-- Settles O41. -/
theorem popProcedure : Obligations.PopProcedure :=
  fun s => ⟨by rw [s.pop16_fst, s.readWord_toNat], s.pop16_snd⟩

/-- Settles O42: AF is the one pair whose low byte is computed, as the number F reads as. -/
theorem pushPair : Obligations.PushPair := fun q s =>
  have hform := form_ofPush q
  ⟨decode_of_form_eq hform, length_of_form_eq hform, exec_ofPush_eq_next s q⟩

/-- Settles O43. -/
theorem popPair : Obligations.PopPair := fun p s =>
  have hform := form_ofPop p.toStack
  ⟨code_toStack p ▸ decode_of_form_eq hform, length_of_form_eq hform, exec_ofPop_toStack_eq_next s p⟩

/-- Settles O44. -/
theorem popAccumulatorAndFlags : Obligations.PopAccumulatorAndFlags :=
  fun s => ⟨rfl, rfl, exec_popAF_eq_next s⟩

/-- Settles O45: the popped word is the pair's own value, and writing it back to the pair changes nothing. -/
theorem pushPopInverse : Obligations.PushPopInverse := by
  refine ⟨fun s v => ⟨s.pop16_push16_fst v, by rw [s.pop16_push16_snd]⟩,
    fun q s => ⟨_, _, exec_ofPush q s, exec_ofPop q _, ?_⟩⟩
  rw [State.pop16_setPc, State.pop16_push16_fst, State.pop16_push16_snd]
  exact (State.setPair_with_pc_mem _ q _ s.pc s.mem).trans (s.setPair_getPair q)

end Sys2Proof.Machine
end

section
/-! SUPPORT. Control transfer (45_control.md rules R170-R176): the pushed return address and the a16 target in plain
arithmetic, the whole effect of JP, CALL and RET for every test and state, and a RET on the stack of a CALL. -/

namespace Sys2Proof.Machine

open Sys2Proof.Claims

section
variable (s : State)

/-! ## The target and the return address (R54, R160) -/

theorem State.imm16_eq_ofNat :
    s.imm16 = BitVec.ofNat 16 ((s.readByte (s.pc + 2)).toNat * 256 + (s.readByte (s.pc + 1)).toNat) :=
  joinBytes_eq_ofNat _ _

theorem State.push16_eq_withPushed (v : Word) :
    s.push16 v = withPushed s (BitVec.ofNat 8 (v.toNat / 256)) (BitVec.ofNat 8 (v.toNat % 256)) := by
  rw [State.push16_eq, hi8_eq_ofNat, lo8_eq_ofNat]
  rfl

/-- A word depends only on its two bytes, wherever the two states differ elsewhere. -/
theorem State.readWord_congr {t u : State} {a : Word} (hlow : u.readByte a = t.readByte a)
    (hhigh : u.readByte (a + 1) = t.readByte (a + 1)) : u.readWord a = t.readWord a := by
  rw [State.readWord, State.readWord, hlow, hhigh]

/-! ## The whole effect of JP, CALL and RET, for every test and state -/

variable (cc : Test)

theorem exec_ofJp_eq_next :
    exec (Instr.ofJp cc) s = .next { s with
      pc := if s.cond cc then BitVec.ofNat 16 ((s.readByte (s.pc + 2)).toNat * 256 + (s.readByte (s.pc + 1)).toNat)
        else s.pc + 3 } := by
  cases h : s.cond cc with
  | true => rw [exec_ofJp_taken h, s.imm16_eq_ofNat]; rfl
  | false => exact exec_ofJp_untaken h

/-- The target is read in the state that the push left, whose pc is still that of the CALL. -/
theorem exec_ofCall_eq_next :
    exec (Instr.ofCall cc) s =
      if s.cond cc then
        let pushed := withPushed s (BitVec.ofNat 8 ((s.pc + 3).toNat / 256)) (BitVec.ofNat 8 ((s.pc + 3).toNat % 256))
        .next { pushed with
          pc := BitVec.ofNat 16 ((pushed.readByte (s.pc + 2)).toNat * 256 + (pushed.readByte (s.pc + 1)).toNat) }
      else .next { s with pc := s.pc + 3 } := by
  cases h : s.cond cc with
  | true => rw [exec_ofCall_taken h, State.imm16_eq_ofNat, State.push16_eq_withPushed]; rfl
  | false => exact exec_ofCall_untaken h

theorem exec_ofRet_eq_next :
    exec (Instr.ofRet cc) s =
      if s.cond cc then .next { s with pc := wordAt s s.sp, sp := s.sp + 2 }
      else .next { s with pc := s.pc + 1 } := by
  cases h : s.cond cc with
  | true => rw [exec_ofRet_taken h, s.readWord_eq_wordAt]; rfl
  | false => exact exec_ofRet_untaken h

end

/-! ## The stack of a taken CALL (R176) -/

/-- A taken CALL leaves sp two lower and the address after itself as the word there. -/
theorem stack_of_exec_ofCall_taken {s t : State} {cc : Test} (h : s.cond cc = true)
    (hexec : exec (Instr.ofCall cc) s = .next t) : t.sp = s.sp - 2 ∧ t.readWord t.sp = s.pc + 3 := by
  obtain rfl : (s.push16 (s.pc + 3)).setPc (s.push16 (s.pc + 3)).imm16 = t :=
    Host.Outcome.next.inj ((exec_ofCall_taken h).symm.trans hexec)
  have hsp := s.push16_sp (s.pc + 3)
  have hword : (s.push16 (s.pc + 3)).readWord (s.push16 (s.pc + 3)).sp = s.pc + 3 := by
    rw [hsp, s.readWord_push16]
  exact ⟨hsp, hword⟩

/-! ## The obligations about control transfer -/

/-- Settles O49: the word that the RET pops is the one at the sp of the CALL's state, and two above that sp is the sp
from before the CALL. -/
theorem callReturnRoundTrip : Obligations.CallReturnRoundTrip := by
  intro cc cc' s t u hcall hexec hret husp hlow hhigh
  obtain ⟨htsp, hword⟩ := stack_of_exec_ofCall_taken hcall hexec
  have hpopped : u.readWord u.sp = s.pc + 3 := by
    rw [husp] at hlow hhigh ⊢
    exact (State.readWord_congr hlow hhigh).trans hword
  have hrestored : u.sp + 2 = s.sp := by rw [husp, htsp, sp_sub_two_add_two]
  rw [exec_ofRet_taken hret, hpopped, hrestored]
  rfl

/-- Settles O46: pc + 1, pc + 2 and pc + 3 are sums of words, so they wrap at the end of memory by themselves. -/
theorem jumpRule : Obligations.JumpRule := fun cc s =>
  have hform := form_ofJp cc
  ⟨decode_of_form_eq hform, length_of_form_eq hform, exec_ofJp_eq_next s cc⟩

/-- Settles O47: the push comes first also where it lies over the CALL's own operand. -/
theorem callPushesThenReadsTarget : Obligations.CallPushesThenReadsTarget := fun cc s =>
  have hform := form_ofCall cc
  ⟨decode_of_form_eq hform, length_of_form_eq hform, exec_ofCall_eq_next s cc⟩

/-- Settles O48. -/
theorem returnPopsPc : Obligations.ReturnPopsPc := fun cc s =>
  have hform := form_ofRet cc
  ⟨decode_of_form_eq hform, length_of_form_eq hform, exec_ofRet_eq_next s cc⟩

end Sys2Proof.Machine
end

section
/-! SUPPORT. The prefixed rotates (46_prefixed.md rules R190, R191): what a step request on an UnimplementedInstruction
gives the host. -/

namespace Sys2Proof.Machine

open Sys2Proof.Claims

/-- A step that ends in UnimplementedInstruction is reported as it stands, with the state from before the step (R201). -/
theorem State.request_of_step_unimplemented {s : State} {b : Byte} {p : Bool} {i : Instr}
    (h : step s = .fault (.unimplementedInstruction b p i)) : s.request = (.unimplementedInstruction b p i, s) := by
  rw [State.request, h]
  rfl

/-- Settles O10: the bytes at pc decode to the rotate, so the step is its execution, which raises the failure. -/
theorem rotatesAreUnimplemented : Obligations.RotatesAreUnimplemented := by
  intro t s
  have hform := form_ofRlc t
  have hdecode : decode (0b00000#5 ++ t.code) true = some (Instr.ofRlc t) := decode_of_form_eq hform
  have hexec := exec_rotate_of_decode_some hdecode (by rw [hform]; rfl) s
  refine ⟨hdecode, length_of_form_eq hform, hexec, fun hprefix hbyte => ?_⟩
  have hfetch : s.fetch = (0b00000#5 ++ t.code, true) := State.fetch_of_sentinel hprefix hbyte
  exact State.request_of_step_unimplemented ((step_of_decode_some hfetch hdecode).trans hexec)

end Sys2Proof.Machine
end

section
/-! SUPPORT. Failures and the host's ports (60_exceptions.md rules R201, R202, R208, R215): which fetch and which entry of
the tables each failure comes from, and the step that follows a host write at pc. -/

namespace Sys2Proof.Machine

open Sys2Proof.Claims

/-! ## The fetch of each table (R102) -/

section
variable {s : State} {b : Byte}

theorem State.fetch_eq_unprefixed_iff :
    s.fetch = (b, false) ↔ s.readByte s.pc ≠ Config.prefixSentinel ∧ b = s.readByte s.pc := by
  constructor
  · intro h
    rcases s.fetch_cases with ⟨-, hf⟩ | ⟨hne, hf⟩
    · simp [hf] at h
    · exact ⟨hne, (congrArg Prod.fst (h.symm.trans hf) :)⟩
  · rintro ⟨hne, hb⟩
    exact State.fetch_of_readByte_pc hb.symm (hb ▸ hne)

theorem State.fetch_eq_prefixed_iff :
    s.fetch = (b, true) ↔ s.readByte s.pc = Config.prefixSentinel ∧ b = s.readByte (s.pc + 1) := by
  constructor
  · intro h
    rcases s.fetch_cases with ⟨hcb, hf⟩ | ⟨-, hf⟩
    · exact ⟨hcb, (congrArg Prod.fst (h.symm.trans hf) :)⟩
    · simp [hf] at h
  · rintro ⟨hcb, hb⟩
    exact State.fetch_of_sentinel hcb hb.symm

end

/-! ## The entry behind each failure (R103, R105) -/

section
variable {s : State} {b : Byte} {p : Bool} {i : Instr}

/-- Inversion of a failing step: the fetched key has no entry, or its entry is a rotate. -/
theorem step_fault_cases {f : Fault} (h : step s = .fault f) :
    (decode s.fetch.1 s.fetch.2 = none ∧ f = .unknownOpcode s.fetch.1 s.fetch.2) ∨
      ∃ i, decode s.fetch.1 s.fetch.2 = some i ∧ isRotate i.form = true ∧
        f = .unimplementedInstruction s.fetch.1 s.fetch.2 i := by
  cases hd : decode s.fetch.1 s.fetch.2 with
  | none =>
    rw [step_of_decode_none rfl hd] at h
    exact .inl ⟨rfl, (Host.Outcome.fault.inj h).symm⟩
  | some i =>
    rw [step_of_decode_some rfl hd] at h
    cases hrot : isRotate i.form with
    | false => exact nomatch (exec_of_not_rotate hrot s).symm.trans h
    | true =>
      rw [exec_rotate_of_decode_some hd hrot] at h
      exact .inr ⟨i, rfl, hrot, (Host.Outcome.fault.inj h).symm⟩

theorem step_eq_unknownOpcode_iff :
    step s = .fault (.unknownOpcode b p) ↔ s.fetch = (b, p) ∧ decode b p = none := by
  refine ⟨fun h => ?_, fun ⟨hf, hd⟩ => step_of_decode_none hf hd⟩
  rcases step_fault_cases h with ⟨hd, heq⟩ | ⟨i, -, -, heq⟩
  · cases heq
    exact ⟨rfl, hd⟩
  · exact nomatch heq

theorem step_eq_unimplementedInstruction_iff :
    step s = .fault (.unimplementedInstruction b p i) ↔
      s.fetch = (b, p) ∧ decode b p = some i ∧ isRotate i.form = true := by
  refine ⟨fun h => ?_, fun ⟨hf, hd, hrot⟩ =>
    (step_of_decode_some hf hd).trans (exec_rotate_of_decode_some hd hrot s)⟩
  rcases step_fault_cases h with ⟨-, heq⟩ | ⟨j, hd, hrot, heq⟩
  · exact nomatch heq
  · cases heq
    exact ⟨rfl, hd, hrot⟩

/-- The mark that an instruction was decoded under says whether it is a rotate. -/
theorem isRotate_form_of_decode_some (hd : decode b p = some i) : isRotate i.form = p := by
  obtain ⟨-, rfl⟩ := decode_some hd
  exact (isPrefixed_eq_isRotate i).symm

theorem exists_decode_prefixed_iff : (∃ i, decode b true = some i) ↔ b.toNat < 8 := by
  rw [← Option.ne_none_iff_exists', ne_eq, decode_prefixed_eq_none_iff, not_le]

theorem ne_sentinel_of_decode_some (hd : decode b p = some i) : b ≠ Config.prefixSentinel :=
  (decode_some hd).1 ▸ opcode_ne_sentinel i

end

/-! ## The bytes behind each failure (R202) -/

section
variable {s : State} {b : Byte} {p : Bool}

/-- Unprefixed, the sentinel has no entry either, but the fetch never looks it up. -/
theorem step_unknownOpcode_unprefixed_iff :
    step s = .fault (.unknownOpcode b false) ↔ b = s.readByte s.pc ∧ b.toNat ∈ unmappedPrimary := by
  rw [step_eq_unknownOpcode_iff, State.fetch_eq_unprefixed_iff, decode_primary_eq_none_iff]
  constructor
  · rintro ⟨⟨hne, rfl⟩, hmem | hcb⟩
    · exact ⟨rfl, hmem⟩
    · exact absurd hcb hne
  · rintro ⟨rfl, hmem⟩
    exact ⟨⟨ne_sentinel_of_mem_unmappedPrimary hmem, rfl⟩, .inl hmem⟩

theorem step_unknownOpcode_prefixed_iff :
    step s = .fault (.unknownOpcode b true) ↔
      s.readByte s.pc = 0xCB ∧ b = s.readByte (s.pc + 1) ∧ 8 ≤ b.toNat := by
  rw [step_eq_unknownOpcode_iff, State.fetch_eq_prefixed_iff, decode_prefixed_eq_none_iff, and_assoc]
  rfl

/-- Every prefixed entry is a rotate and no unprefixed one is, so a mapped prefixed byte is all it takes. -/
theorem step_unimplementedInstruction_iff :
    (∃ i, step s = .fault (.unimplementedInstruction b p i)) ↔
      p = true ∧ s.readByte s.pc = 0xCB ∧ b = s.readByte (s.pc + 1) ∧ b.toNat < 8 := by
  constructor
  · rintro ⟨i, h⟩
    obtain ⟨hf, hd, hrot⟩ := step_eq_unimplementedInstruction_iff.mp h
    obtain rfl : p = true := (isRotate_form_of_decode_some hd).symm.trans hrot
    obtain ⟨hcb, hb⟩ := State.fetch_eq_prefixed_iff.mp hf
    exact ⟨rfl, hcb, hb, exists_decode_prefixed_iff.mp ⟨i, hd⟩⟩
  · rintro ⟨rfl, hcb, hb, hlt⟩
    obtain ⟨i, hd⟩ := exists_decode_prefixed_iff.mpr hlt
    exact ⟨i, step_eq_unimplementedInstruction_iff.mpr
      ⟨State.fetch_eq_prefixed_iff.mpr ⟨hcb, hb⟩, hd, isRotate_form_of_decode_some hd⟩⟩

end

/-- Settles O9: the bytes of UnknownOpcode table by table, those of UnimplementedInstruction, and every instruction that
is no rotate completes. -/
theorem failuresAreExactlyTheUnmappedAndTheRotates : Obligations.FailuresAreExactlyTheUnmappedAndTheRotates := by
  refine ⟨fun s b p => ?_, fun s b p => step_unimplementedInstruction_iff,
    fun i s h => ⟨_, exec_of_not_rotate h s⟩⟩
  cases p with
  | false => simp [step_unknownOpcode_unprefixed_iff]
  | true => simp [step_unknownOpcode_prefixed_iff]

/-! ## After a failure, and after a host write (R201, R208, R215) -/

/-- Settles O11: the second request is made in the state of the first. -/
theorem failureChangesNothing : Obligations.FailureChangesNothing := by
  intro s h
  have hsame : s.request.2 = s := s.request_snd_of_fst_ne_ok h
  exact ⟨hsame, congrArg State.request hsame⟩

/-- A byte of the primary table written at pc is what the next fetch looks up, since it is not the sentinel. -/
theorem step_hostWrite_pc (s : State) {v : Byte} {i : Instr} (hd : decode v false = some i) :
    step (s.hostWrite s.pc v) = exec i (s.hostWrite s.pc v) := by
  have hread : (s.hostWrite s.pc v).readByte (s.hostWrite s.pc v).pc = v := (writeThenRead s s.pc s.pc v).1
  exact step_of_decode_some (State.fetch_of_readByte_pc hread (ne_sentinel_of_decode_some hd)) hd

/-- Settles O13: the failure left the state, so the patch is a host write at its pc. -/
theorem hostPatchResumesAfterFailure : Obligations.HostPatchResumesAfterFailure := by
  intro s v i hfail hd
  rw [s.request_snd_of_fst_ne_ok hfail]
  exact step_hostWrite_pc s hd

/-- Settles O54: the ports are the bus operations of rules R51 and R52. -/
theorem hostWriteIsSeenByTheNextStep : Obligations.HostWriteIsSeenByTheNextStep := by
  intro s v i hd
  obtain ⟨hread, -, hframe⟩ := writeThenRead s s.pc s.pc v
  exact ⟨hread, fun a => (writeThenRead s s.pc a v).2.1, hframe, step_hostWrite_pc s hd⟩

end Sys2Proof.Machine
end

section
/-! SUPPORT. Reading one instruction off a list of bytes (30_encoding.md; 40_step_driver.md rule R102) is the inverse of
writing it out, in both directions, and so a table word stored at pc runs. -/

namespace Sys2Proof.Machine

/-! ## The two shapes of an opcode part (R71, R102) -/

section
variable {b : Byte} {p : Bool} {i : Instr} {bytes ops rest : List Byte}

theorem decodeBytes_sentinel_cons (b : Byte) (bytes : List Byte) :
    decodeBytes (Config.prefixSentinel :: b :: bytes) = decodeKey b true bytes := rfl

theorem decodeBytes_cons_of_ne_sentinel (h : b ≠ Config.prefixSentinel) :
    decodeBytes (b :: bytes) = decodeKey b false bytes :=
  if_neg h

/-- Inversion of a list that reads as an instruction: its key is the byte after the sentinel, or its first byte. -/
theorem decodeBytes_instr_cases (h : decodeBytes bytes = .instr i ops rest) :
    ∃ b tail, (bytes = Config.prefixSentinel :: b :: tail ∧ decodeKey b true tail = .instr i ops rest) ∨
      (bytes = b :: tail ∧ decodeKey b false tail = .instr i ops rest) := by
  match bytes with
  | [] => exact nomatch h
  | b :: tail =>
    by_cases hb : b = Config.prefixSentinel
    · subst hb
      match tail with
      | [] => exact nomatch h
      | b' :: tail' => exact ⟨b', tail', .inl ⟨rfl, decodeBytes_sentinel_cons b' tail' ▸ h⟩⟩
    · exact ⟨b, tail, .inr ⟨rfl, decodeBytes_cons_of_ne_sentinel hb ▸ h⟩⟩

/-! ## Decode of encode, and encode of decode -/

/-- The operand bytes are split off at exactly their length, whatever follows them. -/
theorem decodeKey_append (hd : decode b p = some i) (hops : ops.length = i.operandLength) :
    decodeKey b p (ops ++ rest) = .instr i ops rest := by
  simp only [decodeKey, hd, ← hops, List.length_append, Nat.le_add_right, if_true, List.take_left, List.drop_left]

theorem decodeBytes_encodeWith_append (hops : ops.length = i.operandLength) :
    decodeBytes (encodeWith i ops ++ rest) = .instr i ops rest := by
  have hentry := decode_opcode i
  cases hp : i.isPrefixed with
  | true =>
    rw [hp] at hentry
    rw [encodeWith, encode_of_prefixed hp, List.append_assoc]
    exact (decodeBytes_sentinel_cons _ _).trans (decodeKey_append hentry hops)
  | false =>
    rw [hp] at hentry
    rw [encodeWith, encode_of_unprefixed hp, List.append_assoc]
    exact (decodeBytes_cons_of_ne_sentinel (opcode_ne_sentinel i)).trans (decodeKey_append hentry hops)

/-- Each table entry stands at its instruction's own opcode byte and in its own table, so the key gives both back. -/
theorem encodeWith_append_of_decodeBytes (h : decodeBytes bytes = .instr i ops rest) :
    encodeWith i ops ++ rest = bytes ∧ ops.length = i.operandLength := by
  obtain ⟨b, tail, ⟨rfl, hkey⟩ | ⟨rfl, hkey⟩⟩ := decodeBytes_instr_cases h
  all_goals
    obtain ⟨hentry, rfl, hops⟩ := decodeKey_instr hkey
    obtain ⟨rfl, hp⟩ := decode_some hentry
    refine ⟨?_, hops⟩
  · rw [encodeWith, encode_of_prefixed hp.symm, List.append_assoc]
    rfl
  · rw [encodeWith, encode_of_unprefixed hp.symm, List.append_assoc]
    rfl

end

/-- Settles O5. -/
theorem decodeAndEncodeAgree : Obligations.DecodeAndEncodeAgree :=
  ⟨fun _ _ _ => decodeBytes_encodeWith_append, fun _ _ _ _ => encodeWith_append_of_decodeBytes⟩

/-! ## A table word stored for the next fetch -/

theorem length_tableBytes (nbits w : Nat) : (tableBytes nbits w).length = 3 := by
  rw [tableBytes]
  split <;> rfl

/-- The bytes of a table word that the decoder reads are the instruction's own, with whatever is left of the word. -/
theorem tableBytes_of_decodeTableWord {nbits w : Nat} {i : Instr} (h : decodeTableWord nbits w = some i) :
    ∃ tail, tableBytes nbits w = encodeWith i tail := by
  rw [decodeTableWord] at h
  split at h
  · next j ops rest hread =>
    obtain rfl := Option.some.inj h
    obtain ⟨hbytes, -⟩ := encodeWith_append_of_decodeBytes hread
    exact ⟨ops ++ rest, by rw [← hbytes, encodeWith, encodeWith, List.append_assoc]⟩
  · exact nomatch h
  · exact nomatch h

theorem State.writeBytes_frame (s : State) (a : Word) (bytes : List Byte) :
    { s.writeBytes a bytes with mem := s.mem } = s := by
  induction bytes generalizing s a with
  | nil => rfl
  | cons v rest ih => exact congrArg (fun t : State => { t with mem := s.mem }) (ih (s.writeByte a v) (a + 1))

/-- Settles O7: the word's bytes are those of the instruction it decodes to, so storing them at pc stores it. -/
theorem fetchWordRuns : Obligations.FetchWordRuns := by
  intro s nbits w i h
  obtain ⟨tail, htail⟩ := tableBytes_of_decodeTableWord h
  have hshort : tail.length < 65535 := by
    have hlen := length_tableBytes nbits w
    rw [htail, encodeWith, List.length_append] at hlen
    omega
  refine ⟨?_, s.writeBytes_frame s.pc _⟩
  rw [State.withFetchWord, htail]
  exact step_of_decode_some (s.fetch_writeBytes_encodeWith i hshort) (decode_opcode i)

end Sys2Proof.Machine
end

section
/-! SUPPORT. Canonical memories (20_memory.md rule R50), what keeps them so from outside a step, and creation
(70_reset_and_hazards.md rules R230, R231). -/

namespace Sys2Proof.Machine

/-! ## A canonical memory is its reads -/

theorem Memory.mem_of_read_ne {m : Memory} {k : Nat} (h : m.read k ≠ Config.unlistedByte) : (k, m.read k) ∈ m := by
  induction m with
  | nil => exact absurd rfl h
  | cons c rest ih =>
    by_cases hc : c.1 = k
    · rw [Memory.read_cons, if_pos hc, ← hc]
      exact List.mem_cons_self
    · rw [Memory.read_cons, if_neg hc] at h ⊢
      exact List.mem_cons_of_mem _ (ih h)

/-- No cell hides another: the addresses rise strictly. -/
theorem Memory.read_of_mem {m : Memory} (hm : m.wf) {c : Host.Cell} (hc : c ∈ m) : m.read c.1 = c.2 := by
  induction m with
  | nil => exact nomatch hc
  | cons d rest ih =>
    rcases List.mem_cons.mp hc with rfl | hrest
    · exact if_pos rfl
    · have hlt : d.1 < c.1 := (List.pairwise_cons.mp hm.1).1 c hrest
      rw [Memory.read_cons, if_neg hlt.ne, ih (Memory.wf_tail hm) hrest]

/-- The cells of a canonical memory are the 16-bit addresses that do not read as an unlisted one. -/
theorem Memory.mem_iff_read {m : Memory} (hm : m.wf) (c : Host.Cell) :
    c ∈ m ↔ ∃ a : Word, a.toNat = c.1 ∧ m.read a.toNat = c.2 ∧ c.2 ≠ Config.unlistedByte := by
  obtain ⟨k, v⟩ := c
  constructor
  · intro hc
    obtain ⟨hk, hv⟩ := hm.2 _ hc
    have hnat : (BitVec.ofNat 16 k).toNat = k := Nat.mod_eq_of_lt hk
    exact ⟨BitVec.ofNat 16 k, hnat, by rw [hnat]; exact Memory.read_of_mem hm hc, hv⟩
  · rintro ⟨a, rfl, rfl, hv⟩
    exact Memory.mem_of_read_ne hv

/-- Settles O29: memories that read alike have the same cells, and rising addresses leave one order for them. -/
theorem canonicalMemoriesThatReadAlikeAreEqual : Obligations.CanonicalMemoriesThatReadAlikeAreEqual := by
  intro m m' hm hm' hread
  refine List.Pairwise.eq_of_mem_iff hm.1 hm'.1 fun c => ?_
  simp only [Memory.mem_iff_read hm, Memory.mem_iff_read hm', hread]

/-! ## The host's writes and creation -/

theorem State.wf_loadImage {s : State} (h : s.mem.wf) (image : List (Word × Byte)) : (s.loadImage image).mem.wf := by
  induction image generalizing s with
  | nil => exact h
  | cons x rest ih => exact ih (State.wf_writeByte h x.1 x.2)

/-- Settles O57: each of the three is a run of bus writes. -/
theorem hostWritesKeepTheInvariant : Obligations.HostWritesKeepTheInvariant :=
  fun s hs => ⟨State.wf_writeByte hs, State.wf_loadImage hs,
    fun nbits w => State.wf_writeBytes hs s.pc (tableBytes nbits w)⟩

/-- Settles O55: nothing is loaded at reset, and creation takes the image as it is. -/
theorem createdStatesHaveTheInvariant : Obligations.CreatedStatesHaveTheInvariant :=
  ⟨Memory.wf_nil, fun _ _ himage => himage⟩

/-- Settles O50: creation copies every field. -/
theorem creationSetsResetStateAndImage : Obligations.CreationSetsResetStateAndImage :=
  fun _ _ => ⟨⟨rfl, rfl⟩, ⟨rfl, rfl, rfl, rfl, rfl, rfl, rfl⟩, ⟨rfl, rfl, rfl, rfl⟩, fun _ => rfl⟩

/-- Settles O52: a byte with an entry in the primary table is not the sentinel, so the first fetch looks it up. -/
theorem firstInstructionAtResetPc : Obligations.FirstInstructionAtResetPc :=
  fun _ _ _ hd => step_of_decode_some (State.fetch_of_readByte_pc rfl (ne_sentinel_of_decode_some hd)) hd

end Sys2Proof.Machine
end
